-- ==== Sys2Proof/Word.lean ====
section
/-! DEFINITION. The word types of the TGC-24 model: bytes and multi-byte fields of messages (R185), and the bounded
numbers of 00_scope.md Table 4: pockets and heads 0 to 23, gas channels 0 to 3, recipe slots 0 to 7. -/

namespace Sys2Proof

/-- One byte of a message (Table 10.1). -/
abbrev Byte := BitVec 8

/-- A two-byte field of a message (R185). -/
abbrev Word16 := BitVec 16

/-- A four-byte field of a message (R185). -/
abbrev Word32 := BitVec 32

/-- A pocket or head number: head p sits in pocket p (00_scope.md Table 4). -/
abbrev PocketNo := Fin 24

/-- A gas channel number (00_scope.md Table 4). -/
abbrev ChannelNo := Fin 4

/-- A recipe slot number (00_scope.md Table 4). -/
abbrev SlotNo := Fin 8

/-- A lot id, 1 to 4294967295; 0 stands for absent in messages (R185). -/
abbrev LotId := Word32

end Sys2Proof
end

