-- ==== Sys2Proof/Syntax.lean ====
section
/-! DEFINITION. The commands of the TGC-24: one constructor of `Instr` for each row of spec/opcode_table.json, and the
types of their operands. The table gives its rows no operands; an operand here is a fact the event carries in the rules
(logs 1, 3, 4, 6 and 19). -/

namespace Sys2Proof

/-- The two message ports (Table 10.13, set "port"). -/
inductive Port where
  | line
  | service
  deriving DecidableEq, Repr

/-- A whole frame between its start byte and its check: KIND, TAG and BODY (Table 10.1). LEN and the check follow from
them. -/
structure Frame where
  kind : Byte
  tag  : Byte
  body : List Byte
  deriving DecidableEq, Repr

/-- A gate position, which is also a lane (Table 10.13). -/
inductive GatePos where
  | accept
  | scrap
  | hold
  deriving DecidableEq, Repr

/-- The two inputs that set the interlock latch (R162). -/
inductive InterlockInput where
  | guard
  | leak
  deriving DecidableEq, Repr

/-- A new level of a head input that the block samples at a crossing (R24, R26, R72, R77, R83) or when it builds a GET_HEAD
reply (R85). The table has no row for these levels, so the commands in which they are read bring their changes with them
(log 4). -/
inductive SampledInput where
  | canPresent   (head : PocketNo) (active : Bool)
  | cupPresent   (head : PocketNo) (active : Bool)
  | displacement (head : PocketNo) (raw : Word16)
  deriving DecidableEq, Repr

/-- An operand of a command in which a GET_HEAD reply may be built, with the changes of the sampled head inputs that the
command brings: they stand before it acts, so the reply shows the cup as it stands (R85, log 4). -/
structure WithInputs (α : Type) where
  value  : α
  inputs : List SampledInput
  deriving DecidableEq, Repr

/-- A value for each of the nine recipe phases, in the order of Table 1.3. -/
structure PhasesOf (α : Type) where
  admitCheck   : α
  cupCheck     : α
  seat         : α
  chargeOpen   : α
  chargeLatest : α
  chargeClose  : α
  crimpStart   : α
  crimpMeasure : α
  release      : α
  deriving DecidableEq, Repr

/-- The 65-byte recipe record as a message carries it, not yet validated (Table 10.8). -/
structure RecipeWire where
  nameLength    : Byte
  nameChars     : Vector Byte 16
  productCode   : Word32
  doseTarget    : Word16
  doseTolerance : Word16
  supplyMinimum : Word16
  phases        : PhasesOf Word16
  jawMode       : Byte
  jawTime       : Word16
  heightLow     : Word16
  heightHigh    : Word16
  forceLow      : Word16
  forceHigh     : Word16
  minimumPitch  : Word32
  bandPresence  : Byte
  weightLow     : Word16
  weightHigh    : Word16
  deriving DecidableEq, Repr

/-- The 21-byte machine configuration as a message carries it, not yet validated (Table 10.2, SET_CONFIG). -/
structure ConfigWire where
  gateDistance      : Byte
  weigherDistance   : Byte
  retirementLimit   : Byte
  reseatThreshold   : Byte
  probationCount    : Byte
  calibrationLimit  : Word16
  gateSettleTime    : Byte
  stallTime         : Word16
  syncTimeout       : Byte
  tareIntervalCount : Word16
  tareIntervalTime  : Word16
  quietTime         : Word16
  safeCeiling       : Word32
  deriving DecidableEq, Repr

/-- The commands. The first group are events on the plant side, the second events on the ports, the third the requests,
each of which is the arrival of the whole frame that carries it (log 3). -/
inductive Instr where
  /-- R1. `elapsed` is the time in µs since the last command that carried time (log 1), `inputs` the changes of the
  sampled head inputs since then (log 4), `order` the hand-off order of this step's crossings (log 6). -/
  | forwardEncoderStep (elapsed : Nat) (inputs : List SampledInput) (order : List Nat)
  /-- R1, R2. -/
  | reverseEncoderStep (elapsed : Nat)
  /-- R3, R4. -/
  | indexPulse
  /-- R4. -/
  | stepCountReaches2888
  /-- R14. -/
  | stallTimerExpiry
  /-- R14, R15. -/
  | driveReadyChange (ready : Bool)
  /-- R16. -/
  | standstillTimerExpiry
  /-- R170 and the power-on rule of every chapter. -/
  | powerOn
  /-- R50, R56, R64. `mg` is signed. -/
  | meterIncrement (elapsed : Nat) (channel : ChannelNo) (mg : Int)
  /-- R55. -/
  | meterError (channel : ChannelNo)
  /-- R51. -/
  | noFlowTimerExpiry (channel : ChannelNo)
  /-- R56. -/
  | settleTimerExpiry (channel : ChannelNo)
  /-- R63. -/
  | tareTimerExpiry (channel : ChannelNo)
  /-- R61. -/
  | tareIntervalTimeReached (channel : ChannelNo)
  /-- R65. -/
  | supplyPressureChange (kPa : Word16)
  /-- R27. -/
  | bellClosedInput (head : PocketNo) (active : Bool)
  /-- R74. -/
  | jawClosedInput (head : PocketNo) (active : Bool)
  /-- R74, R75. -/
  | jawTimerExpiry (head : PocketNo)
  /-- R76. -/
  | jawForceReading (head : PocketNo) (newtons : Int)
  /-- R80. -/
  | bellOpenInput (head : PocketNo) (active : Bool)
  /-- R112; `none` is NO_READING. -/
  | weigherRecord (weight : Option Word16)
  /-- R111. -/
  | gateEyeInput (active : Bool)
  /-- R117; `none` is a sensor that shows no position. -/
  | gatePositionSensor (shown : Option GatePos)
  /-- R117, R118. -/
  | gateSettleTimerExpiry
  /-- R162. -/
  | interlockInputActive (input : InterlockInput) (active : Bool)
  /-- R155. -/
  | syncTimerExpiry
  /-- R164. -/
  | quietTimerExpiry
  /-- R174: a whole frame with a correct check. -/
  | frameReceived (port : Port) (frame : WithInputs Frame)
  /-- R172. -/
  | gapTimerExpiry (port : Port)
  /-- R175, R178, R179. -/
  | transmitEnd (port : WithInputs Port)
  /-- R176: a request whose KIND is no request kind. -/
  | unknownKind (port : Port) (kind : Byte) (tag : Byte) (body : List Byte)
  /-- R182. -/
  | ping (port : Port) (tag : Byte)
  /-- R168. -/
  | getStatus (port : Port) (tag : Byte)
  /-- R154, R143. -/
  | startLine (port : Port) (tag : Byte) (lot : Word32) (slot : Byte)
  /-- R156. -/
  | stopLine (port : Port) (tag : Byte) (mode : Byte)
  /-- R7. -/
  | resync (port : Port) (tag : Byte)
  /-- R163. -/
  | clearInterlock (port : Port) (tag : Byte)
  /-- R165. -/
  | clearSafe (port : Port) (tag : Byte)
  /-- R167. -/
  | setConfig (port : Port) (tag : Byte) (values : ConfigWire)
  /-- R161. -/
  | getHaltRecord (port : Port) (tag : Byte)
  /-- R169. -/
  | restart (port : Port) (tag : Byte)
  /-- R134. -/
  | writeRecipe (port : Port) (tag : Byte) (slot : Byte) (recipe : RecipeWire)
  /-- R136. -/
  | reserveRecipe (port : Port) (tag : Byte) (slot : Byte)
  /-- R137. -/
  | writeRecipeReserved (port : Port) (tag : Byte) (slot : Byte) (recipe : RecipeWire)
  /-- R135. -/
  | readRecipe (port : Port) (tag : Byte) (slot : Byte)
  /-- R145. -/
  | changeover (port : Port) (tag : Byte) (target : Byte) (expected : Word16) (newLot : Word32) (boundary : Byte) (n : Word16)
  /-- R149. -/
  | abortChangeover (port : Port) (tag : Byte)
  /-- R151. -/
  | getChangeover (port : Port) (tag : Byte)
  /-- R144. -/
  | getLot (port : Port) (tag : Byte)
  /-- R104. -/
  | getHead (port : Port) (tag : Byte) (head : WithInputs Byte)
  /-- R101, R102. -/
  | setHeadOut (port : Port) (tag : Byte) (head : Byte) (direction : Byte)
  /-- R100. -/
  | restoreHead (port : Port) (tag : Byte) (head : Byte)
  /-- R105. -/
  | readRetirements (port : Port) (tag : Byte)
  /-- R103. -/
  | clearTallies (port : Port) (tag : Byte) (head : Byte)
  /-- R67. -/
  | getChannel (port : Port) (tag : Byte) (channel : Byte)
  /-- R66. -/
  | setChannel (port : Port) (tag : Byte) (channel : Byte) (action : Byte)
  /-- R124. -/
  | takeTrace (port : Port) (tag : Byte) (count : Byte)
  /-- R183. -/
  | setReportMask (port : Port) (tag : Byte) (mask : Byte)
  /-- R171. -/
  | byteReceived (port : Port) (byte : WithInputs Byte)
  deriving DecidableEq, Repr

end Sys2Proof
end

