-- ==== Sys2Proof/Decode.lean ====
section
/-! DEFINITION. The command that a word spells by the bits of spec/opcode_table.json. The table gives its 59 rows no bits
(the reader's count: rows with fixed bits 0), so no word spells a command (log 23). The bytes of the TGC-24's own message
frames are not words of the table: BYTE_RECEIVED and FRAME_RECEIVED bring them, and Machine/Link.lean reads them. -/

namespace Sys2Proof

/-- No row of the table gives bits, so no word spells a command. -/
def decodeTableWord (_nbits _w : Nat) : Option Instr := none

end Sys2Proof
end

