-- ==== Sys2Proof/Machine/State.lean ====
section
/-! DEFINITION. All the state the spec gives the TGC-24, block by block (00_scope.md Table 1), as plain data, the queue of
waiting commands, and the state right after power-on. -/

namespace Sys2Proof.Machine

/-! ### Names of states and causes (Table 10.13) -/

/-- Sync state of the position counter (R4). -/
inductive SyncState where
  | unsynced | provisional | synced | faulted
  deriving DecidableEq, Repr

/-- Line state (Table 8.2). -/
inductive LineState where
  | stopped | starting | run | drain | halt
  deriving DecidableEq, Repr

/-- The thirteen halt causes (R159, Table 10.13). -/
inductive HaltCause where
  | hostStop | serviceStop | guard | leak | indexMismatch | missingIndex | reversal | syncTimeout | stall
  | driveFault | headStuck | gateFault | overspeedSustained
  deriving DecidableEq, Repr

/-- The drain causes (R157). -/
inductive DrainCause where
  | hostStop | linkQuiet | retirementLimit | noChannel
  deriving DecidableEq, Repr

/-- The causes of the interlock latch (R162). -/
inductive LatchCause where
  | powerOn | guard | leak
  deriving DecidableEq, Repr

/-- Pocket steps, in the order of Table 2.2. -/
inductive PocketStep where
  | idle | offered | loaded | cupped | seated | waitCharge | charging | charged | crimping | crimped | released
  | calPass
  deriving DecidableEq, Repr

/-- Channel states (Table 3.3). -/
inductive ChannelState where
  | tareWait | tare | idle | charging | settling | fault | off
  deriving DecidableEq, Repr

/-- Close causes of a charge (R54). -/
inductive CloseCause where
  | target | forced | halt | noFlow | meter
  deriving DecidableEq, Repr

/-- Fault causes of a channel (Table 3.1). -/
inductive ChannelFault where
  | noFlow | creep | meter | drift | doseRun
  deriving DecidableEq, Repr

/-- Supply states (R65). -/
inductive SupplyState where
  | ok | low
  deriving DecidableEq, Repr

/-- Jaw modes (Table 7.1). -/
inductive JawMode where
  | confirmed | timed
  deriving DecidableEq, Repr

/-- Jaw conditions (Table 4.2). -/
inductive JawCondition where
  | waiting | closed | timedOut
  deriving DecidableEq, Repr

/-- Head states (Table 5.2). -/
inductive HeadState where
  | inService | reseatPending | reseating | probation | retired | out
  deriving DecidableEq, Repr

/-- Retirement causes (R97). -/
inductive RetireCause where
  | threshold | cal | stuck
  deriving DecidableEq, Repr

/-- Events a HEAD_STATE report names (R87). -/
inductive HeadEvent where
  | verdict | reseatStart | calibration | interrupted | stuck | overflow | restore | setOut | setIn | restart
  deriving DecidableEq, Repr

/-- Failure causes of a changeover (R148, R149). -/
inductive FailCause where
  | hostAbort | lineStop | safeProfile
  deriving DecidableEq, Repr

/-- Close events of a lot (R142). -/
inductive CloseEvent where
  | startLine | commit
  deriving DecidableEq, Repr

/-- Events a LINE_STATE report names (R153). -/
inductive LineEvent where
  | start | synced | stopControlled | drainComplete | standstill
  | drain (cause : DrainCause)
  | halt (cause : HaltCause)
  deriving DecidableEq, Repr

/-- Dispositions of a trace record (R39, R122). -/
inductive Disposition where
  | accept | scrap | hold | missing
  deriving DecidableEq, Repr

/-- How one lamp of the stack lamp is shown (Table 8.5). -/
inductive LampMode where
  | off | steady | blinking
  deriving DecidableEq, Repr

/-! ### Shared small types -/

/-- A timer: stopped, or running since it was last started with this duration in ms (log 2). -/
abbrev Timer := Option Nat

/-- The set of reason codes of a can record: bit c − 1 is set when the reason of code c is present (R37, Table 10.6).
Held as bits, the set is in code order whatever the order of arrival. -/
abbrev Reasons := BitVec 24

/-- Lot id and serial name one can (R38). -/
structure CanId where
  lot    : LotId
  serial : Nat
  deriving DecidableEq, Repr

/-! ### Position counter (Table 1.1) -/

/-- The position counter. The high-water is position + backlash depth modulo 2880 and is computed. -/
structure PositionCounter where
  sync            : SyncState
  position        : Nat
  backlash        : Nat
  stepCount       : Nat
  pitchCounter    : Word32
  pitchTime       : Option Nat
  /-- Timebase reading of the last pitch-boundary crossing since the pitch time became absent (R11). -/
  lastBoundary    : Option Nat
  overspeedRun    : Nat
  overspeedOpen   : Bool
  stallTimer      : Timer
  standstillTimer : Timer
  standstill      : Bool
  speedCeiling    : Nat
  deriving DecidableEq, Repr

/-! ### Recipes (Table 7.1) -/

/-- The content of a LOADED slot. -/
structure Recipe where
  name          : List Byte
  productCode   : Word32
  doseTarget    : Nat
  doseTolerance : Nat
  supplyMinimum : Nat
  phases        : PhasesOf Nat
  jawMode       : JawMode
  jawTime       : Nat
  heightLow     : Nat
  heightHigh    : Nat
  forceLow      : Nat
  forceHigh     : Nat
  minimumPitch  : Nat
  weightBand    : Option (Nat × Nat)
  deriving DecidableEq, Repr

/-- A recipe slot: EMPTY while `content` is absent (R131). -/
structure RecipeSlot where
  generation : Word16
  content    : Option Recipe
  deriving DecidableEq, Repr

/-- A port's reservation (R136). -/
structure Reservation where
  slot       : SlotNo
  generation : Word16
  deriving DecidableEq, Repr

structure RecipeStore where
  slots              : Vector RecipeSlot 8
  lineReservation    : Option Reservation
  serviceReservation : Option Reservation
  deriving DecidableEq, Repr

/-! ### Pockets (Table 2.1) -/

/-- The binding of a pocket (R19). -/
structure Binding where
  slot       : SlotNo
  generation : Word16
  lot        : LotId
  phases     : PhasesOf Nat
  jawMode    : JawMode
  jawTime    : Nat
  deriving DecidableEq, Repr

/-- The can record (Table 2.3). Its weight and late flag are written by the trail alone and stand in the trail entry. -/
structure CanRecord where
  lot           : LotId
  serial        : Nat
  pocket        : PocketNo
  slot          : SlotNo
  generation    : Word16
  reasons       : Reasons
  channel       : Option ChannelNo
  dose          : Option Int
  height        : Option Int
  peakForce     : Option Nat
  jawClosePhase : Option Nat
  overspeed     : Bool
  deriving DecidableEq, Repr

/-- What a pocket carries. The can record is present exactly while the content is CAN (Table 2.1). -/
inductive Content where
  | empty
  | can (record : CanRecord)
  | unknown
  deriving DecidableEq, Repr

structure Pocket where
  content   : Content
  step      : PocketStep
  binding   : Option Binding
  halted    : Bool
  seatWatch : Bool
  deriving DecidableEq, Repr

/-! ### Gas Channel Unit (Tables 3.1, 3.2) -/

/-- The can being charged, and its target and tolerance, as read at the grant (R49). -/
structure Grant where
  pocket    : PocketNo
  lot       : LotId
  serial    : Nat
  target    : Nat
  tolerance : Nat
  deriving DecidableEq, Repr

structure Channel where
  state            : ChannelState
  grant            : Option Grant
  accumulated      : Int
  /-- Mass at close and close cause, present together (Table 3.1). -/
  lastClose        : Option (Int × CloseCause)
  settleError      : Bool
  noFlowTimer      : Timer
  settleTimer      : Timer
  tareTimer        : Timer
  preact           : Int
  zeroOffset       : Int
  standing         : Int
  chargesSinceTare : Nat
  /-- In µs; the rules read it in ms (R61). -/
  timeSinceTare    : Nat
  tareDue          : Bool
  outOfBand        : Nat
  faultCause       : Option ChannelFault
  offPending       : Bool
  /-- Increments of the current IDLE stay, oldest first, each with its timebase reading (R64). -/
  creepWindow      : List (Nat × Int)
  valveOpen        : Bool
  deriving DecidableEq, Repr

structure GasUnit where
  channels   : Vector Channel 4
  waiting    : List PocketNo
  tareQueue  : List ChannelNo
  supply     : SupplyState
  minInForce : Option Nat
  /-- The gas selector output of each head: closed, or connected to a channel (R45). -/
  selectors  : Vector (Option ChannelNo) 24
  deriving DecidableEq, Repr

/-! ### Crimp unit (Tables 4.1, 4.2) -/

/-- Kind of a stroke; a crimp on a can holds the can's lot id and serial (Table 4.2). -/
inductive StrokeKind where
  | can (id : CanId)
  | calibration
  deriving DecidableEq, Repr

structure Stroke where
  kind      : StrokeKind
  jawMode   : JawMode
  jawTime   : Nat
  condition : JawCondition
  jawTimer  : Timer
  /-- The force capture: closed, or open with the peak held (R76). -/
  capture   : Option Nat
  deriving DecidableEq, Repr

structure CrimpHead where
  bellLowered : Bool
  jawClosed   : Bool
  stroke      : Option Stroke
  /-- The bell-open watch: closed, or open for a can (R79). -/
  watch       : Option CanId
  deriving DecidableEq, Repr

/-! ### Head health unit (Table 5.1) -/

structure Tallies where
  seat  : Nat
  dose  : Nat
  crimp : Nat
  jaw   : Nat
  cal   : Nat
  stuck : Nat
  deriving DecidableEq, Repr

structure Head where
  state       : HeadState
  consecutive : Nat
  remainder   : Nat
  zeroOffset  : Int
  tallies     : Tallies
  lastCan     : Option CanId
  cause       : Option RetireCause
  overflow    : Bool
  deriving DecidableEq, Repr

/-- An entry of the retirement table (R97). -/
structure Retirement where
  pocket  : PocketNo
  cause   : RetireCause
  lastCan : Option CanId
  deriving DecidableEq, Repr

/-! ### Trail and trace buffer (Tables 6.1, 6.2, 6.4) -/

/-- A weigher record matched to an entry; no `reading` is NO_READING (R112, R114). -/
structure WeightMatch where
  reading : Option Word16
  late    : Bool
  deriving DecidableEq, Repr

/-- A tracked can, or the discharge of an UNKNOWN pocket with its purge reasons (Table 6.2). -/
inductive EntryKind where
  | real (record : CanRecord)
  | purge (pocket : PocketNo) (reasons : Reasons)
  deriving DecidableEq, Repr

/-- A trail entry. Its gate-commanded flag is set exactly when its lane is recorded (R116). -/
structure TrailEntry where
  kind           : EntryKind
  dischargePitch : Word32
  weight         : Option WeightMatch
  lane           : Option GatePos
  deriving DecidableEq, Repr

/-- An open gate watch: its settle timer in ms and the entry of its command, named by discharge pitch, which no two
entries share (R109, R117). -/
structure GateWatch where
  entry  : Option Word32
  settle : Nat
  deriving DecidableEq, Repr

structure Trail where
  entries     : List TrailEntry
  gateCommand : GatePos
  watch       : Option GateWatch
  eyeLatch    : Bool
  deriving DecidableEq, Repr

/-- A trace record (Table 6.4): the entry it was made from, with its number, disposition, lane and gate pitch. -/
structure TraceRecord where
  number         : Word32
  disposition    : Disposition
  lane           : GatePos
  kind           : EntryKind
  dischargePitch : Word32
  gatePitch      : Word32
  weight         : Option WeightMatch
  deriving DecidableEq, Repr

structure TraceBuffer where
  records       : List TraceRecord
  nextNumber    : Word32
  admissionHeld : Bool
  deriving DecidableEq, Repr

/-! ### Lots and changeover (Tables 7.3, 7.5) -/

structure LotRecord where
  lot        : LotId
  slot       : SlotNo
  generation : Word16
  admitted   : Nat
  accepted   : Nat
  scrapped   : Nat
  held       : Nat
  missing    : Nat
  lost       : Nat
  inFlight   : Nat
  offers     : Nat
  deriving DecidableEq, Repr

/-- Where the new lot begins (R145). -/
inductive Boundary where
  | next
  | after (n : Nat)
  deriving DecidableEq, Repr

/-- What CHANGEOVER fixed (Table 7.5). -/
structure ChangePlan where
  target   : SlotNo
  expected : Word16
  newLot   : LotId
  boundary : Boundary
  deriving DecidableEq, Repr

/-- The changeover record's state with the fields present in it (Table 7.5). `counted` marks the pockets of the
counted offers set. -/
inductive Changeover where
  | none
  | armed (plan : ChangePlan) (remaining : Nat) (counted : Vector Bool 24)
  | switching (plan : ChangePlan)
  deriving DecidableEq, Repr

/-- How the last changeover ended (Table 7.5). -/
inductive ChangeOutcome where
  | committed
  | failed (cause : FailCause)
  deriving DecidableEq, Repr

structure LotRegister where
  current     : Option LotRecord
  closing     : Option LotRecord
  lastClosed  : Option LotRecord
  changeover  : Changeover
  lastOutcome : Option ChangeOutcome
  deriving DecidableEq, Repr

/-! ### Line control (Tables 8.1, 8.4, 8.5, 8.6) -/

/-- The machine configuration (Table 8.6); times in the units of the table. -/
structure MachineConfig where
  gateDistance      : Nat
  weigherDistance   : Nat
  retirementLimit   : Nat
  reseatThreshold   : Nat
  probationCount    : Nat
  calibrationLimit  : Nat
  gateSettleTime    : Nat
  stallTime         : Nat
  syncTimeout       : Nat
  tareIntervalCount : Nat
  tareIntervalTime  : Nat
  quietTime         : Nat
  safeCeiling       : Nat
  deriving DecidableEq, Repr

/-- Kind and tag of a request taken from the line port's queue (R161). -/
structure LastRequest where
  kind : Byte
  tag  : Byte
  deriving DecidableEq, Repr

/-- The halt record (Table 8.4). Bit c − 1 of `later` is set for the halt cause of code c (Table 10.3). -/
structure HaltRecord where
  first        : HaltCause
  lineLeft     : LineState
  sync         : SyncState
  position     : Nat
  pitchCounter : Word32
  lastRequest  : Option LastRequest
  later        : BitVec 16
  deriving DecidableEq, Repr

/-- The stack lamp (Table 8.5). -/
structure Lamp where
  green : LampMode
  amber : LampMode
  red   : LampMode
  deriving DecidableEq, Repr

structure LineControl where
  state       : LineState
  runPermit   : Bool
  drainCause  : Option DrainCause
  syncTimer   : Timer
  haltRecord  : Option HaltRecord
  /-- The interlock latch: clear, or set with its cause (R162). -/
  latch       : Option LatchCause
  safe        : Bool
  stage       : Nat
  quietTimer  : Timer
  lamp        : Lamp
  lastRequest : Option LastRequest
  deriving DecidableEq, Repr

/-! ### Link controller (Table 9.1) -/

/-- A report handed to the link controller, with the matter its data fields carry (Table 10.12). -/
inductive Report where
  | interlockSet (cause : LatchCause) (line : LineState)
  | haltEntered (cause : HaltCause)
  | positionFault (cause : HaltCause) (position stepCount : Nat)
  | headStuck (pocket : PocketNo) (can : CanId) (line : LineState)
  | gateFault (commanded : GatePos) (sensed : Option GatePos) (pitch : Word32) (can : Option CanId)
  | linkQuiet (stage quiet : Nat) (line : LineState)
  | headState (head : PocketNo) (before after : HeadState) (event : HeadEvent) (cause : Option RetireCause)
      (zeroOffset : Int) (consecutive remainder retirements : Nat)
  | channelState (channel : ChannelNo) (state : ChannelState) (cause : Option ChannelFault) (zeroOffset : Int)
  | orphanWeight (pitch : Word32) (weight : Option Word16) (entries : Nat)
  | canMissing (pitch : Word32) (can : CanId) (pocket : PocketNo)
  | strayCan (pitch : Word32)
  | supply (state : SupplyState) (pressure : Word16) (minimum : Option Nat)
  | overspeedStart (pitchTime ceiling : Nat)
  | overspeedEnd (pitchTime : Option Nat)
  | admissionHeld (start : Bool) (fill inFlight offered : Nat)
  | traceHigh (fill inFlight : Nat)
  | lineState (before after : LineState) (event : LineEvent)
  | changeSwitching (closing new : LotId) (inFlight : Nat)
  | changeCommitted (closed new : LotId)
  | changeFailed (cause : FailCause)
  | lotClosed (record : LotRecord) (event : CloseEvent)
  | traceWaiting (fill : Nat)
  deriving DecidableEq, Repr

/-- A port's receiver: between frames, or inside one with the bytes taken so far, start byte first (R171). -/
inductive Receiver where
  | hunting
  | inFrame (bytes : List Byte)
  deriving DecidableEq, Repr

/-- What a frame leaving a port is. -/
inductive TxKind where
  | reply | busy | report
  deriving DecidableEq, Repr

structure TxFrame where
  what  : TxKind
  frame : Frame
  deriving DecidableEq, Repr

/-- A BUSY refusal waiting in the refusal slot, behind `ahead` requests still to be answered (R174, R175). -/
structure BusyRefusal where
  frame : Frame
  ahead : Nat
  deriving DecidableEq, Repr

structure PortState where
  receiver    : Receiver
  gapTimer    : Timer
  queue       : List Frame
  refusal     : Option BusyRefusal
  /-- The reply or BUSY refusal built and not yet begun (R175). -/
  outstanding : Option TxFrame
  transmitter : Option TxFrame
  deriving DecidableEq, Repr

structure LinkController where
  linePort    : PortState
  servicePort : PortState
  reports     : List Report
  maskTrace   : Bool
  maskLot     : Bool
  maskFault   : Bool
  dropped     : Nat
  deriving DecidableEq, Repr

/-! ### Plant-side input levels (00_scope.md Table 2) -/

/-- The input levels the rules read, as last brought by a command (log 4). -/
structure PlantInputs where
  driveReady   : Bool
  guardDoor    : Bool
  leak         : Bool
  canPresent   : Vector Bool 24
  cupPresent   : Vector Bool 24
  bellClosed   : Vector Bool 24
  bellOpen     : Vector Bool 24
  jawClosed    : Vector Bool 24
  displacement : Vector Word16 24
  pressure     : Word16
  gateSensor   : Option GatePos
  gateEye      : Bool
  deriving DecidableEq, Repr

/-! ### The whole machine -/

/-- All the state the spec gives the TGC-24, and the queue of commands that wait. `timebase` and `freeIx` are the
model's own (log 24). -/
structure State where
  pending     : List Instr
  position    : PositionCounter
  infeedGate  : Bool
  pockets     : Vector Pocket 24
  gas         : GasUnit
  crimp       : Vector CrimpHead 24
  heads       : Vector Head 24
  retirements : List Retirement
  trail       : Trail
  trace       : TraceBuffer
  recipes     : RecipeStore
  lots        : LotRegister
  line        : LineControl
  config      : MachineConfig
  link        : LinkController
  inputs      : PlantInputs
  timebase    : Nat
  freeIx      : Nat
  deriving DecidableEq, Repr

/-- Nothing the spec describes stops the TGC-24: every command ends in a next state, so no fault exists. -/
inductive Fault where
  deriving DecidableEq, Repr

/-- Why a command has no meaning. -/
inductive Refusal where
  /-- Raised only by an arm of `exec` whose command has no meaning yet; no arm does. Safe: a refusal proves nothing of
  the hardware. -/
  | notModelled (mnemonic : String)
  deriving DecidableEq, Repr

/-! ### Power-on values -/

/-- Table 1.6 (R17). -/
def PositionCounter.initial : PositionCounter :=
  { sync := .unsynced, position := 0, backlash := 0, stepCount := 0, pitchCounter := 0, pitchTime := none,
    lastBoundary := none, overspeedRun := 0, overspeedOpen := false, stallTimer := none, standstillTimer := none,
    standstill := true, speedCeiling := 2000000 }

/-- R44. -/
def Pocket.initial : Pocket :=
  { content := .unknown, step := .idle, binding := none, halted := false, seatWatch := false }

/-- Table 3.6 (R70). -/
def Channel.initial : Channel :=
  { state := .tareWait, grant := none, accumulated := 0, lastClose := none, settleError := false, noFlowTimer := none,
    settleTimer := none, tareTimer := none, preact := 0, zeroOffset := 0, standing := 0, chargesSinceTare := 0,
    timeSinceTare := 0, tareDue := false, outOfBand := 0, faultCause := none, offPending := false, creepWindow := [],
    valveOpen := false }

/-- Table 3.6, with channel 0 already in TARE: it is at the head of the queue and enters TARE at once (R70, R62). -/
def GasUnit.initial : GasUnit :=
  { channels := (Vector.replicate 4 Channel.initial).set 0
      { Channel.initial with state := .tare, tareTimer := some 40 },
    waiting := [], tareQueue := [0, 1, 2, 3], supply := .ok, minInForce := none,
    selectors := Vector.replicate 24 none }

/-- R86. -/
def CrimpHead.initial : CrimpHead :=
  { bellLowered := false, jawClosed := false, stroke := none, watch := none }

/-- R107. -/
def Head.initial : Head :=
  { state := .inService, consecutive := 0, remainder := 0, zeroOffset := 0,
    tallies := { seat := 0, dose := 0, crimp := 0, jaw := 0, cal := 0, stuck := 0 },
    lastCan := none, cause := none, overflow := false }

/-- The defaults of Table 8.6. -/
def MachineConfig.default : MachineConfig :=
  { gateDistance := 6, weigherDistance := 3, retirementLimit := 4, reseatThreshold := 2, probationCount := 3,
    calibrationLimit := 400, gateSettleTime := 60, stallTime := 120, syncTimeout := 10, tareIntervalCount := 256,
    tareIntervalTime := 60, quietTime := 2000, safeCeiling := 250000 }

/-- R130: the gate is commanded to HOLD and the watch opens for that command with no entry, unless the sensor already
shows HOLD (R117). -/
def Trail.initial (shown : Option GatePos) (settle : Nat) : Trail :=
  { entries := [], gateCommand := .hold,
    watch := if shown = some .hold then none else some { entry := none, settle := settle },
    eyeLatch := false }

/-- R130. -/
def TraceBuffer.initial : TraceBuffer := { records := [], nextNumber := 1, admissionHeld := false }

/-- R131, R136. -/
def RecipeStore.initial : RecipeStore :=
  { slots := Vector.replicate 8 { generation := 0, content := none }, lineReservation := none,
    serviceReservation := none }

/-- R139, R151. -/
def LotRegister.initial : LotRegister :=
  { current := none, closing := none, lastClosed := none, changeover := .none, lastOutcome := none }

/-- R170; the lamp shows red blinking alone (R166). -/
def LineControl.initial : LineControl :=
  { state := .stopped, runPermit := false, drainCause := none, syncTimer := none, haltRecord := none,
    latch := some .powerOn, safe := false, stage := 0, quietTimer := none,
    lamp := { green := .off, amber := .off, red := .blinking }, lastRequest := none }

/-- R184. -/
def PortState.initial : PortState :=
  { receiver := .hunting, gapTimer := none, queue := [], refusal := none, outstanding := none, transmitter := none }

/-- R184: after power-on the line transmitter sends the INTERLOCK_SET report with cause POWER_ON at once. Its body is
level ALARM, code 01h, dropped count 0, latch cause POWER_ON 01h, line state STOPPED 01h (R189). -/
def LinkController.initial : LinkController :=
  { linePort := { PortState.initial with
      transmitter := some { what := .report, frame := { kind := 0xF0, tag := 0, body := [3, 1, 0, 0, 1, 1] } } },
    servicePort := PortState.initial, reports := [], maskTrace := true, maskLot := true, maskFault := true,
    dropped := 0 }

/-- Every input inactive, and no position shown by the gate sensor: the levels are the plant's and the spec gives none
(DESIGN CHOICE, log 5, unsafe). -/
def PlantInputs.initial : PlantInputs :=
  { driveReady := false, guardDoor := false, leak := false, canPresent := Vector.replicate 24 false,
    cupPresent := Vector.replicate 24 false, bellClosed := Vector.replicate 24 false,
    bellOpen := Vector.replicate 24 false, jawClosed := Vector.replicate 24 false,
    displacement := Vector.replicate 24 0, pressure := 0, gateSensor := none, gateEye := false }

/-- The state after power-on with the plant's inputs at the levels given. -/
def State.atPowerOn (inputs : PlantInputs) : State :=
  { pending := [], position := PositionCounter.initial, infeedGate := false,
    pockets := Vector.replicate 24 Pocket.initial, gas := GasUnit.initial,
    crimp := Vector.replicate 24 CrimpHead.initial, heads := Vector.replicate 24 Head.initial, retirements := [],
    trail := Trail.initial inputs.gateSensor MachineConfig.default.gateSettleTime, trace := TraceBuffer.initial,
    recipes := RecipeStore.initial, lots := LotRegister.initial, line := LineControl.initial,
    config := MachineConfig.default, link := LinkController.initial, inputs := inputs, timebase := 0, freeIx := 0 }

/-- The TGC-24 right after power-on, with every input inactive and no command waiting. -/
def State.reset : State := State.atPowerOn PlantInputs.initial

end Sys2Proof.Machine
end

