-- ==== Sys2Proof/Machine/Flags.lean ====
section
/-! DEFINITION. The flag computations: reason sets and the disposition that follows from them, fault classes, band
checks, saturation, and the stack lamp. -/

namespace Sys2Proof.Machine

/-! ### Reasons (Table 2.4, R37) -/

/-- The reasons of Table 2.4, in code order. -/
inductive Reason where
  | noCup | seatFail | chargeMissed | doseUnder | doseOver | heightLow | heightHigh | forceLow | forceHigh | weightLow
  | weightHigh | doseUnmeasured | chargeAborted | jawTimeout | jawLate | overspeed | halted | weightMissing | trackLost
  | gateUnconfirmed | purge
  deriving DecidableEq, Repr

/-- The reason codes, 1 to 21 in the order of Table 2.4 (Table 10.10's note). -/
def reasonCode : Reason → Nat
  | .noCup => 1 | .seatFail => 2 | .chargeMissed => 3 | .doseUnder => 4 | .doseOver => 5 | .heightLow => 6
  | .heightHigh => 7 | .forceLow => 8 | .forceHigh => 9 | .weightLow => 10 | .weightHigh => 11 | .doseUnmeasured => 12
  | .chargeAborted => 13 | .jawTimeout => 14 | .jawLate => 15 | .overspeed => 16 | .halted => 17 | .weightMissing => 18
  | .trackLost => 19 | .gateUnconfirmed => 20 | .purge => 21

/-- The set that holds one reason. -/
def reasonBit (r : Reason) : Reasons := 1 <<< (reasonCode r - 1)

/-- R37: a reason is added; one already present leaves the set as it was. -/
def addReason (rs : Reasons) (r : Reason) : Reasons := rs ||| reasonBit r

/-- R37: several reasons are added. -/
def addReasons (rs : Reasons) (l : List Reason) : Reasons := l.foldl addReason rs

/-- Whether a set holds a reason. -/
def hasReason (rs : Reasons) (r : Reason) : Bool := rs.getLsbD (reasonCode r - 1)

/-- The codes of a set in code order (R37). -/
def reasonCodes (rs : Reasons) : List Nat := (List.range 21).filterMap fun i => if rs.getLsbD i then some (i + 1) else none

/-- The scrap-class reasons, codes 1 to 11 (Table 2.4). -/
def scrapReasons : Reasons := 0x0007FF

/-- The hold-class reasons, codes 12 to 21 (Table 2.4). -/
def holdReasons : Reasons := 0x1FF800

/-- R39: the lane that a reason set deserves. -/
def laneOf (rs : Reasons) : GatePos :=
  if rs &&& scrapReasons ≠ 0 then .scrap else if rs &&& holdReasons ≠ 0 then .hold else .accept

/-- A lane as a disposition; MISSING is not derived from reasons (R39). -/
def laneDisposition : GatePos → Disposition
  | .accept => .accept
  | .scrap => .scrap
  | .hold => .hold

/-! ### Fault classes (R32) -/

/-- The head-attributable classes present at a verdict point. -/
structure FaultClasses where
  seat  : Bool
  dose  : Bool
  crimp : Bool
  jaw   : Bool
  deriving DecidableEq, Repr

/-- R32: the classes a reason set holds. -/
def faultClasses (rs : Reasons) : FaultClasses :=
  { seat := hasReason rs .seatFail,
    dose := hasReason rs .doseUnder || hasReason rs .doseOver,
    crimp := hasReason rs .heightLow || hasReason rs .heightHigh || hasReason rs .forceLow || hasReason rs .forceHigh,
    jaw := hasReason rs .jawTimeout || hasReason rs .jawLate }

/-- Whether at least one class is present. -/
def anyClass (c : FaultClasses) : Bool := c.seat || c.dose || c.crimp || c.jaw

/-! ### Saturation and bands -/

/-- A signed quantity held to −32768 to 32767 (Table 3.1). -/
def saturate16 (n : Int) : Int := max (-32768) (min 32767 n)

/-- A count that rises by 1 and holds at its top. -/
def saturatingSucc (top n : Nat) : Nat := if n < top then n + 1 else top

/-- A jaw-force reading held to 0 to 65535 N (R76). -/
def clampForce (n : Int) : Nat := min 65535 n.toNat

/-- The reasons of a band check: below the low bound, above the high bound; the bounds are in band (R57, R77, R113). -/
def bandReasons (value low high : Int) (below above : Reason) : List Reason :=
  if value < low then [below] else if high < value then [above] else []

/-- R58: the preact after a charge closed for TARGET with the settle error clear. -/
def nextPreact (old dose massAtClose : Int) : Int := max 0 (min 2000 ((3 * old + (dose - massAtClose)) / 4))

/-- R11: an elapsed time as a pitch time, 1 to 4294967295 µs (Table 1.1; log 20 for 0). -/
def clampPitchTime (elapsed : Nat) : Nat := max 1 (min 4294967295 elapsed)

/-- R13: a pitch time below 95 % of the ceiling. -/
def isOverspeed (pitchTime ceiling : Nat) : Bool := 20 * pitchTime < 19 * ceiling

/-! ### Stack lamp (R166) -/

/-- Table 8.5. -/
def lampOf (line : LineState) (latchSet safe : Bool) : Lamp :=
  { green := match line with
      | .run => .steady
      | .starting | .drain => .blinking
      | .stopped | .halt => .off,
    amber := if safe then .steady else .off,
    red := if latchSet then .blinking else if line = .halt then .steady else .off }

/-- Whether a lamp is lit at a timebase reading in µs: blinking lamps share one free-running cycle of 0.5 s on and
0.5 s off (R166; its phase, log 31). -/
def lampLit (mode : LampMode) (timebase : Nat) : Bool :=
  match mode with
  | .off => false
  | .steady => true
  | .blinking => timebase / 500000 % 2 = 0

end Sys2Proof.Machine
end

