-- ==== Sys2Proof/Config.lean ====
section
/-! DEFINITION. What the spec leaves open and no rule fixes: the free values, constants with no body. Nothing in Lean can
evaluate them, so a claim that mentions one holds whatever it is. `State.freeIx` indexes them, one index for each use. -/

namespace Sys2Proof

/-- The crimp height recorded where raw value minus zero offset falls outside −32768 to 32767 µm (R77 states no result
there; log 10). -/
opaque Config.freeHeight : Nat → Word16

/-- The new value of a lot count that is already 4294967295 and rises by 1 (Table 7.3 states no result there; log 11). -/
opaque Config.freeLotCount : Nat → Word32

end Sys2Proof
end

