-- ==== Sys2Proof/Machine/Layout.lean ====
section
/-! DEFINITION. How values are written in messages: byte order, codes, the frame check, frames, and the bodies of reports
and trace records (R173, R185 to R189). -/

namespace Sys2Proof.Machine

/-! ### Numbers (R185) -/

/-- A two-byte field, least significant byte first. -/
def le16 (w : Word16) : List Byte := [w.extractLsb' 0 8, w.extractLsb' 8 8]

/-- A four-byte field, least significant byte first. -/
def le32 (w : Word32) : List Byte :=
  [w.extractLsb' 0 8, w.extractLsb' 8 8, w.extractLsb' 16 8, w.extractLsb' 24 8]

/-- A number in one byte. -/
def n8 (n : Nat) : Byte := BitVec.ofNat 8 n

/-- A number in two bytes. -/
def n16 (n : Nat) : List Byte := le16 (BitVec.ofNat 16 n)

/-- A number in four bytes. -/
def n32 (n : Nat) : List Byte := le32 (BitVec.ofNat 32 n)

/-- A signed number in two bytes, two's complement. -/
def i16 (n : Int) : List Byte := le16 (BitVec.ofInt 16 n)

/-- A flag field: 00h clear, 01h set. -/
def flag8 (b : Bool) : Byte := if b then 1 else 0

/-- A flag byte whose bits are numbered from 0, the least significant. -/
def bits8 (l : List Bool) : Byte := n8 (l.foldr (fun b n => 2 * n + b.toNat) 0)

/-- A code that may be absent: 00h stands for absent. -/
def opt8 {α : Type} (code : α → Nat) (o : Option α) : Byte := n8 ((o.map code).getD 0)

/-! ### Codes (Table 10.13) -/

def codeLineState : LineState → Nat
  | .stopped => 1 | .starting => 2 | .run => 3 | .drain => 4 | .halt => 5

def codeSync : SyncState → Nat
  | .unsynced => 1 | .provisional => 2 | .synced => 3 | .faulted => 4

def codeContent : Content → Nat
  | .empty => 1 | .can _ => 2 | .unknown => 3

def codeStep : PocketStep → Nat
  | .idle => 1 | .offered => 2 | .loaded => 3 | .cupped => 4 | .seated => 5 | .waitCharge => 6 | .charging => 7
  | .charged => 8 | .crimping => 9 | .crimped => 10 | .released => 11 | .calPass => 12

def codeChannelState : ChannelState → Nat
  | .tareWait => 1 | .tare => 2 | .idle => 3 | .charging => 4 | .settling => 5 | .fault => 6 | .off => 7

def codeHeadState : HeadState → Nat
  | .inService => 1 | .reseatPending => 2 | .reseating => 3 | .probation => 4 | .retired => 5 | .out => 6

def codeChangeover : Changeover → Nat
  | .none => 1 | .armed _ _ _ => 2 | .switching _ => 3

def codeSlotState (slot : RecipeSlot) : Nat := if slot.content.isSome then 2 else 1

def codeSupply : SupplyState → Nat
  | .ok => 1 | .low => 2

def codeGate : GatePos → Nat
  | .accept => 1 | .scrap => 2 | .hold => 3

def codeDisposition : Disposition → Nat
  | .accept => 1 | .scrap => 2 | .hold => 3 | .missing => 4

def codeHalt : HaltCause → Nat
  | .hostStop => 1 | .serviceStop => 2 | .guard => 3 | .leak => 4 | .indexMismatch => 5 | .missingIndex => 6
  | .reversal => 7 | .syncTimeout => 8 | .stall => 9 | .driveFault => 10 | .headStuck => 11 | .gateFault => 12
  | .overspeedSustained => 13

def codeDrain : DrainCause → Nat
  | .hostStop => 1 | .linkQuiet => 2 | .retirementLimit => 3 | .noChannel => 4

def codeLatch : LatchCause → Nat
  | .powerOn => 1 | .guard => 2 | .leak => 3

def codeClose : CloseCause → Nat
  | .target => 1 | .forced => 2 | .halt => 3 | .noFlow => 4 | .meter => 5

def codeChannelFault : ChannelFault → Nat
  | .noFlow => 1 | .creep => 2 | .meter => 3 | .drift => 4 | .doseRun => 5

def codeRetire : RetireCause → Nat
  | .threshold => 1 | .cal => 2 | .stuck => 3

def codeHeadEvent : HeadEvent → Nat
  | .verdict => 1 | .reseatStart => 2 | .calibration => 3 | .interrupted => 4 | .stuck => 5 | .overflow => 6
  | .restore => 7 | .setOut => 8 | .setIn => 9 | .restart => 10

def codeOutcome : ChangeOutcome → Nat
  | .committed => 1 | .failed _ => 2

def codeFail : FailCause → Nat
  | .hostAbort => 1 | .lineStop => 2 | .safeProfile => 3

def codeCloseEvent : CloseEvent → Nat
  | .startLine => 1 | .commit => 2

def codeJawMode : JawMode → Nat
  | .confirmed => 1 | .timed => 2

def codeJawCondition : JawCondition → Nat
  | .waiting => 1 | .closed => 2 | .timedOut => 3

def codeStroke : StrokeKind → Nat
  | .can _ => 1 | .calibration => 2

def codePort : Port → Nat
  | .line => 1 | .service => 2

def codeBoundary : Boundary → Nat
  | .next => 1 | .after _ => 2

/-- The event field of LINE_STATE: a drain cause is 10h plus its code, a halt cause 20h plus its code. -/
def codeLineEvent : LineEvent → Nat
  | .start => 1 | .synced => 2 | .stopControlled => 3 | .drainComplete => 4 | .standstill => 5
  | .drain c => 0x10 + codeDrain c
  | .halt c => 0x20 + codeHalt c

def codeLampMode : LampMode → Nat
  | .off => 0 | .steady => 1 | .blinking => 2

/-- The request kinds (Table 10.2). -/
def kindPing : Byte := 0x01
def kindGetStatus : Byte := 0x02
def kindStartLine : Byte := 0x03
def kindStopLine : Byte := 0x04
def kindResync : Byte := 0x05
def kindClearInterlock : Byte := 0x06
def kindClearSafe : Byte := 0x07
def kindSetConfig : Byte := 0x08
def kindGetHaltRecord : Byte := 0x09
def kindRestart : Byte := 0x0A
def kindWriteRecipe : Byte := 0x0B
def kindReserveRecipe : Byte := 0x0C
def kindWriteRecipeReserved : Byte := 0x0D
def kindReadRecipe : Byte := 0x0E
def kindChangeover : Byte := 0x0F
def kindAbortChangeover : Byte := 0x10
def kindGetChangeover : Byte := 0x11
def kindGetLot : Byte := 0x12
def kindGetHead : Byte := 0x13
def kindSetHeadOut : Byte := 0x14
def kindRestoreHead : Byte := 0x15
def kindReadRetirements : Byte := 0x16
def kindClearTallies : Byte := 0x17
def kindGetChannel : Byte := 0x18
def kindSetChannel : Byte := 0x19
def kindTakeTrace : Byte := 0x1A
def kindSetReportMask : Byte := 0x1B

/-! ### Frames (Table 10.1, R173) -/

/-- One of the eight shifts of R173. -/
def crcBit (r : Word16) : Word16 := if r.msb then (r <<< 1) ^^^ 0x8005 else r <<< 1

/-- R173: one byte into the check register. -/
def crcByte (r : Word16) (b : Byte) : Word16 :=
  crcBit (crcBit (crcBit (crcBit (crcBit (crcBit (crcBit (crcBit (r ^^^ (b.setWidth 16 <<< 8)))))))))

/-- R173: the check over LEN through the last body byte. -/
def crc (bytes : List Byte) : Word16 := bytes.foldl crcByte 0xFFFF

/-- LEN through the last body byte. -/
def checkedBytes (f : Frame) : List Byte := n8 (f.body.length + 2) :: f.kind :: f.tag :: f.body

/-- The whole frame on the wire (Table 10.1). -/
def frameBytes (f : Frame) : List Byte := (0xC3 : Byte) :: (checkedBytes f ++ le16 (crc (checkedBytes f)))

/-! ### Refusals (R177, R186) -/

/-- The refusal reasons (Table 10.10). -/
inductive RefusalReason where
  | unknownKind | badLength | badValue | wrongState | notOnThisPort | busy | slotEmpty | slotInUse | lostReservation
  | staleGeneration | lotOpen | interlock | retirementLimit | noChannel | safeProfile | tooLate | inputActive
  deriving DecidableEq, Repr

def codeRefusal : RefusalReason → Nat
  | .unknownKind => 0x01 | .badLength => 0x02 | .badValue => 0x03 | .wrongState => 0x04 | .notOnThisPort => 0x05
  | .busy => 0x06 | .slotEmpty => 0x07 | .slotInUse => 0x08 | .lostReservation => 0x09 | .staleGeneration => 0x0A
  | .lotOpen => 0x0B | .interlock => 0x0C | .retirementLimit => 0x0D | .noChannel => 0x0E | .safeProfile => 0x0F
  | .tooLate => 0x10 | .inputActive => 0x11

/-- What a request is answered: a refusal with the field id named or 0, or the body of an accepted reply. -/
inductive Answer where
  | refused (reason : RefusalReason) (field : Nat)
  | accepted (body : List Byte)
  deriving DecidableEq, Repr

/-- R177, R186: the frame that answers a request. -/
def answerFrame (request : Frame) : Answer → Frame
  | .refused reason field =>
    { kind := 0xFE, tag := request.tag, body := [request.kind, n8 (codeRefusal reason), n8 field] }
  | .accepted body => { kind := request.kind + 0x80, tag := request.tag, body := body }

/-! ### Reports (R189, Table 10.12) -/

/-- The level of a report: 3 ALARM, 2 FAULT, 1 LOT, 0 TRACE. -/
def reportLevel : Report → Nat
  | .interlockSet _ _ | .haltEntered _ | .positionFault _ _ _ | .headStuck _ _ _ | .gateFault _ _ _ _
  | .linkQuiet _ _ _ => 3
  | .headState _ _ _ _ _ _ _ _ _ | .channelState _ _ _ _ | .orphanWeight _ _ _ | .canMissing _ _ _ | .strayCan _
  | .supply _ _ _ | .overspeedStart _ _ | .overspeedEnd _ | .admissionHeld _ _ _ _ | .traceHigh _ _ => 2
  | .lineState _ _ _ | .changeSwitching _ _ _ | .changeCommitted _ _ | .changeFailed _ | .lotClosed _ _ => 1
  | .traceWaiting _ => 0

/-- The report code. -/
def reportCode : Report → Nat
  | .interlockSet _ _ => 0x01
  | .haltEntered _ => 0x02
  | .positionFault _ _ _ => 0x03
  | .headStuck _ _ _ => 0x04
  | .gateFault _ _ _ _ => 0x05
  | .linkQuiet _ _ _ => 0x06
  | .headState _ _ _ _ _ _ _ _ _ => 0x11
  | .channelState _ _ _ _ => 0x12
  | .orphanWeight _ _ _ | .canMissing _ _ _ | .strayCan _ => 0x13
  | .supply _ _ _ => 0x14
  | .overspeedStart _ _ | .overspeedEnd _ => 0x15
  | .admissionHeld _ _ _ _ => 0x16
  | .traceHigh _ _ => 0x17
  | .lineState _ _ _ => 0x21
  | .changeSwitching _ _ _ | .changeCommitted _ _ | .changeFailed _ => 0x22
  | .lotClosed _ _ => 0x23
  | .traceWaiting _ => 0x31

/-- Lot id and serial of a can; both 0 when absent. -/
def canBytes (o : Option CanId) : List Byte :=
  match o with
  | some id => le32 id.lot ++ n32 id.serial
  | none => n32 0 ++ n32 0

/-- The fields a report carries behind its head; what an event leaves absent is sent as 0 (R189, log 12). -/
def reportData : Report → List Byte
  | .interlockSet cause line => [n8 (codeLatch cause), n8 (codeLineState line)]
  | .haltEntered cause => [n8 (codeHalt cause)]
  | .positionFault cause position stepCount => n8 (codeHalt cause) :: (n16 position ++ n16 stepCount)
  | .headStuck pocket can line => n8 pocket :: (canBytes (some can) ++ [n8 (codeLineState line)])
  | .gateFault commanded sensed pitch can =>
    [n8 (codeGate commanded), opt8 codeGate sensed] ++ le32 pitch ++ canBytes can
  | .linkQuiet stage quiet line => n8 stage :: (n16 quiet ++ [n8 (codeLineState line)])
  | .headState head before after event cause zeroOffset consecutive remainder retirements =>
    [n8 head, n8 (codeHeadState before), n8 (codeHeadState after), n8 (codeHeadEvent event), opt8 codeRetire cause]
      ++ i16 zeroOffset ++ [n8 consecutive, n8 remainder, n8 retirements]
  | .channelState channel state cause zeroOffset =>
    [n8 channel, n8 (codeChannelState state), opt8 codeChannelFault cause] ++ i16 zeroOffset
  | .orphanWeight pitch weight entries =>
    [1] ++ le32 pitch ++ le16 (weight.getD 0) ++ [flag8 weight.isNone, n8 entries] ++ canBytes none ++ [0]
  | .canMissing pitch can pocket => [2] ++ le32 pitch ++ n16 0 ++ [0, 0] ++ canBytes (some can) ++ [n8 pocket]
  | .strayCan pitch => [3] ++ le32 pitch ++ n16 0 ++ [0, 0] ++ canBytes none ++ [0]
  | .supply state pressure minimum => n8 (codeSupply state) :: (le16 pressure ++ n16 (minimum.getD 0))
  | .overspeedStart pitchTime ceiling => 1 :: (n32 pitchTime ++ n32 ceiling)
  | .overspeedEnd pitchTime => 2 :: (n32 (pitchTime.getD 0) ++ n32 0)
  | .admissionHeld start fill inFlight offered => [if start then 1 else 2, n8 fill, n8 inFlight, n8 offered]
  | .traceHigh fill inFlight => [n8 fill, n8 inFlight]
  | .lineState before after event => [n8 (codeLineState before), n8 (codeLineState after), n8 (codeLineEvent event)]
  | .changeSwitching closing new inFlight => [1, 0] ++ le32 closing ++ le32 new ++ [n8 inFlight]
  | .changeCommitted closed new => [2, 0] ++ le32 closed ++ le32 new ++ [0]
  | .changeFailed cause => [3, n8 (codeFail cause)] ++ n32 0 ++ n32 0 ++ [0]
  | .lotClosed r event =>
    le32 r.lot ++ [n8 r.slot] ++ le16 r.generation ++ n32 r.admitted ++ n32 r.accepted ++ n32 r.scrapped ++ n32 r.held
      ++ n32 r.missing ++ n32 r.lost ++ [n8 (codeCloseEvent event)]
  | .traceWaiting fill => [n8 fill]

/-- R178, R189: the frame of a report, carrying the dropped count of the moment its transmission begins. -/
def reportFrame (r : Report) (dropped : Nat) : Frame :=
  { kind := 0xF0, tag := 0, body := n8 (reportLevel r) :: n8 (reportCode r) :: (n16 dropped ++ reportData r) }

/-! ### Trace records (R188, Table 10.11) -/

/-- A field that is left out when absent. -/
def optField {α : Type} (write : α → List Byte) (o : Option α) : List Byte := (o.map write).getD []

/-- The reading of a weight, where one was matched and is not NO_READING. -/
def weightReading (w : Option WeightMatch) : Option Word16 := w.bind (·.reading)

/-- Whether NO_READING was matched (flag bit 6). -/
def noReading (w : Option WeightMatch) : Bool := (w.map (·.reading.isNone)).getD false

/-- Whether the match came after the gate command (flag bit 7). -/
def lateWeight (w : Option WeightMatch) : Bool := (w.map (·.late)).getD false

/-- The reasons a trace record carries: the can record's for CAN, the purge reasons for PURGE (Table 6.4). -/
def entryReasons : EntryKind → Reasons
  | .real r => r.reasons
  | .purge _ rs => rs

/-- The pocket an entry came from. -/
def entryPocket : EntryKind → PocketNo
  | .real r => r.pocket
  | .purge p _ => p

/-- The two flag bytes of a trace record. -/
def traceFlags (t : TraceRecord) : List Byte :=
  match t.kind with
  | .real r =>
    [bits8 [r.channel.isSome, r.dose.isSome, r.height.isSome, r.peakForce.isSome, r.jawClosePhase.isSome,
      (weightReading t.weight).isSome, noReading t.weight, lateWeight t.weight], bits8 [r.overspeed]]
  | .purge _ _ =>
    [bits8 [false, false, false, false, false, (weightReading t.weight).isSome, noReading t.weight,
      lateWeight t.weight], 0]

/-- A trace record as TAKE_TRACE writes it. -/
def traceBytes (t : TraceRecord) : List Byte :=
  let codes := reasonCodes (entryReasons t.kind)
  le32 t.number
    ++ [match t.kind with | .real _ => 1 | .purge _ _ => 2, n8 (codeDisposition t.disposition), n8 (codeGate t.lane),
        n8 (entryPocket t.kind)]
    ++ le32 t.dischargePitch ++ [n8 (t.gatePitch - t.dischargePitch).toNat] ++ traceFlags t ++ [n8 codes.length]
    ++ (match t.kind with
        | .real r =>
          le32 r.lot ++ n32 r.serial ++ [n8 r.slot] ++ le16 r.generation ++ optField (fun c => [n8 c]) r.channel
            ++ optField i16 r.dose ++ optField i16 r.height ++ optField n16 r.peakForce ++ optField n16 r.jawClosePhase
        | .purge _ _ => [])
    ++ optField le16 (weightReading t.weight)
    ++ codes.map n8

end Sys2Proof.Machine
end

