-- ==== Sys2Proof/Machine/Ops.lean ====
section
/-! DEFINITION. The named operations over the state: reads and updates of each block, and handing a report to the link
controller (R180, R181). -/

namespace Sys2Proof.Machine

/-- What a command answers. -/
abbrev Outcome := Host.Outcome State Fault Refusal

/-! ### Updates of one entry of a table -/

def setPocket (p : PocketNo) (v : Pocket) (s : State) : State := { s with pockets := s.pockets.set p v }
def setCrimp (p : PocketNo) (v : CrimpHead) (s : State) : State := { s with crimp := s.crimp.set p v }
def setHead (p : PocketNo) (v : Head) (s : State) : State := { s with heads := s.heads.set p v }
def setChannel (c : ChannelNo) (v : Channel) (s : State) : State :=
  { s with gas := { s.gas with channels := s.gas.channels.set c v } }
def setSelector (p : PocketNo) (v : Option ChannelNo) (s : State) : State :=
  { s with gas := { s.gas with selectors := s.gas.selectors.set p v } }

/-- A pocket's record changed by a function. -/
def modifyPocket (p : PocketNo) (f : Pocket → Pocket) (s : State) : State := setPocket p (f s.pockets[p]) s

/-- A head's crimp state changed by a function. -/
def modifyCrimp (p : PocketNo) (f : CrimpHead → CrimpHead) (s : State) : State := setCrimp p (f s.crimp[p]) s

/-- A channel's record changed by a function. -/
def modifyChannel (c : ChannelNo) (f : Channel → Channel) (s : State) : State := setChannel c (f s.gas.channels[c]) s

/-- An operation made for each head or pocket, in number order. -/
def forHeads (f : PocketNo → State → State) (s : State) : State := (List.finRange 24).foldl (fun s p => f p s) s

/-- An operation made for each channel, in number order. -/
def forChannels (f : ChannelNo → State → State) (s : State) : State := (List.finRange 4).foldl (fun s c => f c s) s

/-! ### Link ports -/

/-- The link controller's record of a port. -/
def portOf (port : Port) (s : State) : PortState :=
  match port with
  | .line => s.link.linePort
  | .service => s.link.servicePort

def setPort (port : Port) (v : PortState) (s : State) : State :=
  match port with
  | .line => { s with link := { s.link with linePort := v } }
  | .service => { s with link := { s.link with servicePort := v } }

/-- The gap time of a port in ms (R172). -/
def gapTime : Port → Nat
  | .line => 2
  | .service => 10

/-! ### Sampled inputs (log 4) -/

/-- A new level of a head input that crossings and GET_HEAD replies read. -/
def setSampled (s : State) (i : SampledInput) : State :=
  match i with
  | .canPresent h v => { s with inputs := { s.inputs with canPresent := s.inputs.canPresent.set h v } }
  | .cupPresent h v => { s with inputs := { s.inputs with cupPresent := s.inputs.cupPresent.set h v } }
  | .displacement h v => { s with inputs := { s.inputs with displacement := s.inputs.displacement.set h v } }

/-- The changes of the sampled inputs that a command brings, in their order, before the command acts. -/
def sampleInputs (inputs : List SampledInput) (s : State) : State := inputs.foldl setSampled s

/-! ### Reports (R180, R181) -/

/-- Whether the mask lets a level through; an ALARM cannot be masked (R180). -/
def levelEnabled (l : LinkController) (level : Nat) : Bool :=
  match level with
  | 0 => l.maskTrace
  | 1 => l.maskLot
  | 2 => l.maskFault
  | _ => true

/-- R180: behind every queued report of the same or a higher level, ahead of every report of a lower level. -/
def insertReport (r : Report) : List Report → List Report
  | [] => [r]
  | q :: rest => if reportLevel r ≤ reportLevel q then q :: insertReport r rest else r :: q :: rest

/-- The report queue and the dropped count after a report that the mask lets through. In a full queue the newest report
of the lowest level is the last, because the queue is held by level, then by age (R181). -/
def queueReport (r : Report) (l : LinkController) : LinkController :=
  if l.reports.length < 32 then { l with reports := insertReport r l.reports }
  else
    match l.reports.getLast? with
    | some lowest =>
      if reportLevel lowest < reportLevel r then
        { l with reports := insertReport r l.reports.dropLast, dropped := saturatingSucc 65535 l.dropped }
      else { l with dropped := saturatingSucc 65535 l.dropped }
    | none => l

/-- R180: a block hands a report to the link controller. -/
def sendReport (r : Report) (s : State) : State :=
  if levelEnabled s.link (reportLevel r) then { s with link := queueReport r s.link } else s

/-! ### Counts that several blocks read -/

/-- The trace fill: the records held (R123). -/
def traceFill (s : State) : Nat := s.trace.records.length

/-- Whether a pocket's content is CAN. -/
def holdsCan (p : Pocket) : Bool :=
  match p.content with
  | .can _ => true
  | _ => false

/-- Pockets with content CAN. -/
def canPockets (s : State) : Nat := s.pockets.toList.countP holdsCan

/-- Pockets with content UNKNOWN. -/
def unknownPockets (s : State) : Nat := s.pockets.toList.countP fun p => p.content = .unknown

/-- Pockets in step OFFERED. -/
def offeredPockets (s : State) : Nat := s.pockets.toList.countP fun p => p.step = .offered

/-- R125: pockets of content CAN or UNKNOWN, plus the entries of the trail. -/
def cansInFlight (s : State) : Nat := canPockets s + unknownPockets s + s.trail.entries.length

/-- R36: whether every pocket is EMPTY and none is OFFERED. -/
def pocketsEmpty (s : State) : Bool := s.pockets.toList.all fun p => p.content = .empty && p.step ≠ .offered

/-- A channel in TARE_WAIT, TARE, IDLE, CHARGING or SETTLING is in service (R69). -/
def inService (c : Channel) : Bool := c.state ≠ .fault && c.state ≠ .off

/-- R69: the channels in service. -/
def channelsInService (s : State) : Nat := s.gas.channels.toList.countP inService

/-- Heads in a state (R104). -/
def headsIn (state : HeadState) (s : State) : Nat := s.heads.toList.countP fun h => h.state = state

/-- The turret furthest forward count (Table 1.1). -/
def highWater (pc : PositionCounter) : Nat := (pc.position + pc.backlash) % 2880

/-- R8: the phase of pocket p at a high-water. -/
def phaseAt (h : Nat) (p : PocketNo) : Nat := (h + 2880 - 120 * p.val) % 2880

/-- The content of a recipe slot; absent while EMPTY (R131). -/
def recipeIn (slot : SlotNo) (s : State) : Option Recipe := s.recipes.slots[slot].content

/-- The present generation of a slot. -/
def generationOf (slot : SlotNo) (s : State) : Word16 := s.recipes.slots[slot].generation

/-- R139: the slot of the current lot. -/
def activeSlot (s : State) : Option SlotNo := s.lots.current.map (·.slot)

/-- Whether the changeover is SWITCHING. -/
def isSwitching (s : State) : Bool :=
  match s.lots.changeover with
  | .switching _ => true
  | _ => false

/-- The slot bound to the closing lot while the changeover is SWITCHING (R139). -/
def closingSlot (s : State) : Option SlotNo := if isSwitching s then s.lots.closing.map (·.slot) else none

/-! ### Result packages (R38) -/

/-- R38: a package for a can is written into the record of the pocket it names, or discarded. -/
def deliver (p : PocketNo) (id : CanId) (write : CanRecord → CanRecord) (s : State) : State :=
  match s.pockets[p].content with
  | .can r => if r.lot = id.lot ∧ r.serial = id.serial then modifyPocket p (fun k => { k with content := .can (write r) }) s else s
  | _ => s

/-- The lot id and serial of a can. -/
def canId (r : CanRecord) : CanId := { lot := r.lot, serial := r.serial }

/-- R37: reasons added to a can record. -/
def withReasons (l : List Reason) (r : CanRecord) : CanRecord := { r with reasons := addReasons r.reasons l }

/-- The end of every command: the stack lamp follows the state of line control (R166). -/
def refreshLamp (s : State) : State :=
  { s with line := { s.line with lamp := lampOf s.line.state s.line.latch.isSome s.line.safe } }

end Sys2Proof.Machine
end

