-- ==== Sys2Proof/Machine/Gas.lean ====
section
/-! DEFINITION. The arbiter and the charge: announcements to the pocket table, the grant, the grant search, the close of a
charge, the tare queue, and the two values derived from the recipes of the active and the closing lot: the speed ceiling
and the supply state (R12, R29, R45 to R54, R62, R65). -/

namespace Sys2Proof.Machine

/-! ### Announcements to the pocket table (R29) -/

/-- A grant of a channel: WAIT_CHARGE becomes CHARGING and the can record takes the channel. -/
def announceGrant (p : PocketNo) (c : ChannelNo) (s : State) : State :=
  let k := s.pockets[p]
  if k.step = .waitCharge then
    setPocket p { k with
      step := .charging,
      content := match k.content with
        | .can r => .can { r with channel := some c }
        | other => other } s
  else s

/-- The close of a charge: CHARGING becomes CHARGED. -/
def announceClose (p : PocketNo) (s : State) : State :=
  let k := s.pockets[p]
  if k.step = .charging then setPocket p { k with step := .charged } s else s

/-- A removal from the waiting list: WAIT_CHARGE becomes CHARGED with CHARGE_MISSED. -/
def announceRemoval (p : PocketNo) (s : State) : State :=
  let k := s.pockets[p]
  if k.step = .waitCharge then
    setPocket p { k with
      step := .charged,
      content := match k.content with
        | .can r => .can (withReasons [.chargeMissed] r)
        | other => other } s
  else s

/-! ### The grant (R48, R49) -/

/-- The can in a pocket; an UNKNOWN or EMPTY pocket, which no rule lets wait for gas, gives lot 0 and serial 0 (log 22). -/
def canInPocket (k : Pocket) : CanId :=
  match k.content with
  | .can r => canId r
  | _ => { lot := 0, serial := 0 }

/-- The recipe of the slot a pocket is bound to (R19). -/
def boundRecipe (k : Pocket) (s : State) : Option Recipe := k.binding.bind fun b => recipeIn b.slot s

/-- The channel's side of a grant to pocket p (R49). -/
def grantedChannel (p : PocketNo) (s : State) (ch : Channel) : Channel :=
  let k := s.pockets[p]
  let id := canInPocket k
  let recipe := boundRecipe k s
  let charges := saturatingSucc 65535 ch.chargesSinceTare
  { ch with
    state := .charging,
    grant := some { pocket := p, lot := id.lot, serial := id.serial, target := (recipe.map (·.doseTarget)).getD 0,
                    tolerance := (recipe.map (·.doseTolerance)).getD 0 },
    accumulated := 0, lastClose := none, settleError := false, chargesSinceTare := charges,
    tareDue := ch.tareDue || s.config.tareIntervalCount ≤ charges, valveOpen := true, noFlowTimer := some 80 }

/-- R49: channel c is granted to pocket p. -/
def grantChannel (c : ChannelNo) (p : PocketNo) (s : State) : State :=
  announceGrant p c
    (setSelector p (some c)
      (modifyChannel c (grantedChannel p s) { s with gas := { s.gas with waiting := s.gas.waiting.erase p } }))

/-- The lowest-numbered IDLE channel. -/
def lowestIdle (s : State) : Option ChannelNo := (List.finRange 4).find? fun c => s.gas.channels[c].state = .idle

/-- One grant of a grant search, where its three conditions hold (R48). -/
def grantOnce (s : State) : State :=
  match s.gas.supply, s.gas.waiting, lowestIdle s with
  | .ok, p :: _, some c => grantChannel c p s
  | _, _, _ => s

/-- R48: grants are repeated until a condition fails. Each takes one of the four channels out of IDLE, so the fourth
leaves none. -/
def grantSearch (s : State) : State := grantOnce (grantOnce (grantOnce (grantOnce s)))

/-! ### The close (R54) -/

/-- The channel's side of a close. -/
def closedChannel (cause : CloseCause) (ch : Channel) : Channel :=
  { ch with state := .settling, valveOpen := false, noFlowTimer := none, lastClose := some (ch.accumulated, cause),
            settleTimer := some 30 }

/-- R54: the charge of channel c closes. -/
def closeCharge (c : ChannelNo) (cause : CloseCause) (s : State) : State :=
  let granted := s.gas.channels[c].grant
  let s := modifyChannel c (closedChannel cause) s
  match granted with
  | some g => announceClose g.pocket (setSelector g.pocket none s)
  | none => s

/-- A charge in CHARGING closes with a cause; a channel in another state is left as it is. -/
def closeIfCharging (cause : CloseCause) (c : ChannelNo) (s : State) : State :=
  if s.gas.channels[c].state = .charging then closeCharge c cause s else s

/-- R47: a pocket in the waiting list is removed from it, with CHARGE_MISSED. -/
def removeWaiting (p : PocketNo) (s : State) : State :=
  if p ∈ s.gas.waiting then
    announceRemoval p { s with gas := { s.gas with waiting := s.gas.waiting.erase p } }
  else s

/-- R53: the waiting list is emptied from head to tail, then every charge in CHARGING closes with cause HALT. -/
def haltGas (s : State) : State :=
  forChannels (closeIfCharging .halt)
    (s.gas.waiting.foldl (fun s p => announceRemoval p s) { s with gas := { s.gas with waiting := [] } })

/-- R46: a pocket in WAIT_CHARGE joins the tail of the list and a grant search follows; outside RUN and DRAIN its
removal is announced at once. -/
def joinWaiting (p : PocketNo) (s : State) : State :=
  if s.line.state = .run ∨ s.line.state = .drain then
    grantSearch { s with gas := { s.gas with
      waiting := if p ∈ s.gas.waiting then s.gas.waiting else s.gas.waiting ++ [p] } }
  else announceRemoval p s

/-! ### The tare queue (R62) -/

/-- R62: the head of the queue enters TARE if no channel is in TARE. -/
def tareStart (s : State) : State :=
  match s.gas.tareQueue with
  | c :: _ =>
    if s.gas.channels.toList.any (·.state = .tare) then s
    else modifyChannel c (fun ch => { ch with state := .tare, tareTimer := some 40 }) s
  | [] => s

/-- A channel joins the tail of the tare queue in TARE_WAIT; the queue holds it at most once (R62). -/
def queueTare (c : ChannelNo) (s : State) : State :=
  let s := modifyChannel c (fun ch => { ch with state := .tareWait }) s
  { s with gas := { s.gas with tareQueue := if c ∈ s.gas.tareQueue then s.gas.tareQueue else s.gas.tareQueue ++ [c] } }

/-- A channel leaves the tare queue, which closes up behind it. -/
def leaveTareQueue (c : ChannelNo) (s : State) : State :=
  { s with gas := { s.gas with tareQueue := s.gas.tareQueue.erase c } }

/-- R61: tare due becomes set; an IDLE channel joins the tare queue at once. -/
def setTareDue (c : ChannelNo) (s : State) : State :=
  let s := modifyChannel c (fun ch => { ch with tareDue := true }) s
  if s.gas.channels[c].state = .idle then tareStart (queueTare c s) else s

/-- A channel enters IDLE, where its creep window starts empty, and a grant search follows (R48, R64). -/
def enterIdle (c : ChannelNo) (s : State) : State :=
  grantSearch (modifyChannel c (fun ch => { ch with state := .idle, creepWindow := [] }) s)

/-! ### Speed ceiling (R12) and supply (R65) -/

/-- The minimum pitch time of a slot; a slot that is EMPTY, which no lot is bound to, gives the value of no slot. -/
def slotPitch (slot : SlotNo) (s : State) : Nat := ((recipeIn slot s).map (·.minimumPitch)).getD 2000000

/-- The recipe part of the ceiling (R12). -/
def recipeCeiling (s : State) : Nat :=
  match activeSlot s, closingSlot s with
  | none, _ => 2000000
  | some a, none => slotPitch a s
  | some a, some b => max (slotPitch a s) (slotPitch b s)

/-- R12: the ceiling pitch time. -/
def ceilingOf (s : State) : Nat :=
  if s.line.safe then max (recipeCeiling s) s.config.safeCeiling else recipeCeiling s

/-- R12: the speed-ceiling output follows its inputs. -/
def refreshCeiling (s : State) : State := { s with position := { s.position with speedCeiling := ceilingOf s } }

/-- The supply minimum of a slot. -/
def slotMinimum (slot : SlotNo) (s : State) : Option Nat := (recipeIn slot s).map (·.supplyMinimum)

/-- R65: the minimum in force. -/
def minimumOf (s : State) : Option Nat :=
  match activeSlot s, closingSlot s with
  | none, _ => none
  | some a, none => slotMinimum a s
  | some a, some b =>
    match slotMinimum a s, slotMinimum b s with
    | some m, some n => some (max m n)
    | some m, none => some m
    | none, n => n

/-- R65: the supply state that follows from the pressure and the minimum in force. -/
def judgedSupply (state : SupplyState) (pressure : Nat) (minimum : Option Nat) : SupplyState :=
  match state, minimum with
  | .ok, some m => if pressure < m then .low else .ok
  | .ok, none => .ok
  | .low, some m => if m + 100 ≤ pressure then .ok else .low
  | .low, none => .ok

/-- R65: the supply state is evaluated; a change is reported, and a change to OK is followed by a grant search. -/
def evaluateSupply (s : State) : State :=
  let new := judgedSupply s.gas.supply s.inputs.pressure.toNat s.gas.minInForce
  if new = s.gas.supply then s
  else
    let s := sendReport (.supply new s.inputs.pressure s.gas.minInForce) { s with gas := { s.gas with supply := new } }
    if new = .ok then grantSearch s else s

/-- R139: the position counter and the arbiter are handed the active and the closing slot. -/
def refreshSlots (s : State) : State :=
  let s := refreshCeiling s
  evaluateSupply { s with gas := { s.gas with minInForce := minimumOf s } }

end Sys2Proof.Machine
end

