-- ==== Sys2Proof/Machine/Lots.lean ====
section
/-! DEFINITION. The lot register: counting events, the close of a lot, the bindings of admission offers, and the end of a
changeover (R139 to R143, R146 to R148). -/

namespace Sys2Proof.Machine

/-! ### Counting (R141, Table 7.4) -/

/-- A 32-bit lot count raised by 1; past 4294967295 the spec states no value and a free one is taken (log 11). -/
def raiseCount (n freeIx : Nat) : Nat := if n < 4294967295 then n + 1 else (Config.freeLotCount freeIx).toNat

/-- The next index of the free values after a count was raised (log 11). -/
def raiseIx (n freeIx : Nat) : Nat := if n < 4294967295 then freeIx else freeIx + 1

/-- The record of an open lot: the current lot or the closing lot. -/
def openLot (lot : LotId) (s : State) : Option LotRecord :=
  match s.lots.current with
  | some l => if l.lot = lot then some l else s.lots.closing.filter (·.lot = lot)
  | none => s.lots.closing.filter (·.lot = lot)

/-- Whether the current lot has this id. -/
def isCurrent (lot : LotId) (s : State) : Bool := s.lots.current.any (·.lot = lot)

/-- The record of an open lot is replaced. -/
def putLot (l : LotRecord) (s : State) : State :=
  if isCurrent l.lot s then { s with lots := { s.lots with current := some l } }
  else { s with lots := { s.lots with closing := some l } }

/-! ### The close and the commit (R142, R147) -/

/-- R142, R147: the closing lot closes and the SWITCHING changeover commits: CHANGEOVER COMMITTED, then LOT_CLOSED. Both are
sent before the arbiter is handed the active slot, and before its SUPPLY report where it sends one: as R147 lists them. -/
def commitClosing (closing : LotRecord) (s : State) : State :=
  let new := (s.lots.current.map (·.lot)).getD 0
  let s := sendReport (.lotClosed closing .commit) (sendReport (.changeCommitted closing.lot new) s)
  refreshSlots { s with lots := { s.lots with
    closing := none, lastClosed := some closing, changeover := .none, lastOutcome := some .committed } }

/-- R142 is applied to a lot: it closes when it is the closing lot with nothing in flight and no offer standing. -/
def settleLot (lot : LotId) (s : State) : State :=
  match s.lots.closing with
  | some l => if l.lot = lot ∧ l.inFlight = 0 ∧ l.offers = 0 then commitClosing l s else s
  | none => s

/-- A counting event that raises one count of a lot and may lower its in-flight count or its offers standing (R141). An
event of a lot no longer open changes no count. -/
def countEvent (lot : LotId) (count : LotRecord → Nat) (write : Nat → LotRecord → LotRecord) (s : State) : State :=
  match openLot lot s with
  | some l =>
    settleLot lot { putLot (write (raiseCount (count l) s.freeIx) l) s with freeIx := raiseIx (count l) s.freeIx }
  | none => s

/-- The serial that the next admission of a lot is given: its admitted count including that can (R24). -/
def nextSerial (lot : LotId) (s : State) : Nat :=
  match openLot lot s with
  | some l => raiseCount l.admitted s.freeIx
  | none => 0

/-- Admit check, can seen: admitted + 1, in flight + 1, offers standing − 1. -/
def countAdmission (lot : LotId) (s : State) : State :=
  countEvent lot (·.admitted) (fun n l => { l with admitted := n, inFlight := l.inFlight + 1, offers := l.offers - 1 }) s

/-- A can record given up: lost + 1, in flight − 1. -/
def countLost (lot : LotId) (s : State) : State :=
  countEvent lot (·.lost) (fun n l => { l with lost := n, inFlight := l.inFlight - 1 }) s

/-- Arrival at the gate: the count of the disposition + 1, in flight − 1 (R120). -/
def countArrival (lot : LotId) (d : Disposition) (s : State) : State :=
  match d with
  | .accept => countEvent lot (·.accepted) (fun n l => { l with accepted := n, inFlight := l.inFlight - 1 }) s
  | .scrap => countEvent lot (·.scrapped) (fun n l => { l with scrapped := n, inFlight := l.inFlight - 1 }) s
  | .hold => countEvent lot (·.held) (fun n l => { l with held := n, inFlight := l.inFlight - 1 }) s
  | .missing => countEvent lot (·.missing) (fun n l => { l with missing := n, inFlight := l.inFlight - 1 }) s

/-- An offer of a lot ends without a can: offers standing − 1. -/
def countNoCan (lot : LotId) (s : State) : State :=
  match openLot lot s with
  | some l => settleLot lot (putLot { l with offers := l.offers - 1 } s)
  | none => s

/-- R146: a pocket leaves the counted offers set; where no can came, remaining rises by 1. -/
def leaveCounted (p : PocketNo) (canSeen : Bool) (s : State) : State :=
  match s.lots.changeover with
  | .armed plan remaining counted =>
    if counted[p] then
      { s with lots := { s.lots with
        changeover := .armed plan (if canSeen then remaining else remaining + 1) (counted.set p false) } }
    else s
  | _ => s

/-! ### Bindings (R19, R140, R146) -/

/-- A binding to a slot at its present generation, with the copies of R19. Where the slot is EMPTY, which no lot is bound
to, there is none (log 22). -/
def bindingTo (slot : SlotNo) (lot : LotId) (s : State) : Option Binding :=
  (recipeIn slot s).map fun r =>
    { slot := slot, generation := generationOf slot s, lot := lot, phases := r.phases, jawMode := r.jawMode,
      jawTime := r.jawTime }

/-- R19: the empty-pass binding, from the active slot and the current lot; none where no lot has been opened. -/
def emptyPassBinding (s : State) : Option Binding := s.lots.current.bind fun l => bindingTo l.slot l.lot s

/-- A new lot record, every count 0 (R143, R146). -/
def newLot (lot : LotId) (slot : SlotNo) (s : State) : LotRecord :=
  { lot := lot, slot := slot, generation := generationOf slot s, admitted := 0, accepted := 0, scrapped := 0, held := 0,
    missing := 0, lost := 0, inFlight := 0, offers := 0 }

/-- After the boundary the closing lot closes at once when its counts are 0; otherwise CHANGEOVER SWITCHING is sent. -/
def settleBoundary (s : State) : State :=
  match s.lots.closing with
  | some l =>
    if l.inFlight = 0 ∧ l.offers = 0 then commitClosing l s
    else sendReport (.changeSwitching l.lot ((s.lots.current.map (·.lot)).getD 0) l.inFlight) s
  | none => s

/-- R146: the offer is the boundary of the changeover. The actions are in the order in which R146
lists them. -/
def boundaryOffer (plan : ChangePlan) (s : State) : State :=
  settleBoundary (refreshSlots { s with lots := { s.lots with
    closing := s.lots.current, current := some { newLot plan.newLot plan.target s with offers := 1 },
    changeover := .switching plan } })

/-- The current lot's offers standing rise by 1. -/
def raiseOffers (s : State) : State :=
  { s with lots := { s.lots with current := s.lots.current.map fun l => { l with offers := l.offers + 1 } } }

/-- R140, R146: an admission offer for pocket p is judged for the boundary and counted. The binding is then the active
slot and the current lot, which at a boundary are the target slot and the new lot. -/
def offerLot (p : PocketNo) (s : State) : State :=
  match s.lots.changeover with
  | .armed plan remaining counted =>
    if remaining = 0 then boundaryOffer plan s
    else
      let s := raiseOffers s
      { s with lots := { s.lots with changeover := .armed plan (remaining - 1) (counted.set p true) } }
  | _ => raiseOffers s

/-! ### Opening a lot and failing a changeover (R143, R148) -/

/-- R143: the current lot closes at once with close event START_LINE, and a new lot opens. -/
def openNewLot (lot : LotId) (slot : SlotNo) (s : State) : State :=
  let s := match s.lots.current with
    | some l =>
      let s := sendReport (.lotClosed l .startLine) s
      { s with lots := { s.lots with lastClosed := some l } }
    | none => s
  refreshSlots { s with lots := { s.lots with current := some (newLot lot slot s) } }

/-- R148: an ARMED changeover fails. -/
def failChangeover (cause : FailCause) (s : State) : State :=
  match s.lots.changeover with
  | .armed _ _ _ =>
    sendReport (.changeFailed cause)
      { s with lots := { s.lots with changeover := .none, lastOutcome := some (.failed cause) } }
  | _ => s

end Sys2Proof.Machine
end

