-- ==== Sys2Proof/Machine/Line.lean ====
section
/-! DEFINITION. Line control: changes of the line state and what they are handed on to, HALT, DRAIN and their completion,
and the entry to RUN (R13, R14, R23, R36, R40, R42, R53, R69, R78, R84, R87, R95, R148, R153 to R161). -/

namespace Sys2Proof.Machine

/-! ### Head state reports (R87) and interrupted calibrations (R42, R84, R95) -/

/-- R87: the HEAD_STATE report of a change from `before`, read from the head after the change. -/
def reportHead (p : PocketNo) (before : HeadState) (event : HeadEvent) (s : State) : State :=
  let h := s.heads[p]
  let cause := if h.state = .retired ∨ (h.state = .out ∧ h.overflow) then h.cause else none
  sendReport (.headState p before h.state event cause h.zeroOffset h.consecutive h.remainder s.retirements.length) s

/-- A head moves to another state, with its report; an event that leaves the state as it was sends none (R87). -/
def moveHead (p : PocketNo) (event : HeadEvent) (f : Head → Head) (s : State) : State :=
  let before := s.heads[p].state
  let s := setHead p (f s.heads[p]) s
  if s.heads[p].state = before then s else reportHead p before event s

/-- R95: a RESEATING head returns to RESEAT_PENDING. -/
def interruptHead (p : PocketNo) (s : State) : State :=
  if s.heads[p].state = .reseating then moveHead p .interrupted (fun h => { h with state := .reseatPending }) s else s

/-- R42, R84: a CAL_PASS pocket returns to IDLE with its binding kept, its jaw is commanded open and its stroke
discarded; a head still RESEATING returns to RESEAT_PENDING. -/
def interruptCalibration (p : PocketNo) (s : State) : State :=
  if s.pockets[p].step = .calPass then
    interruptHead p
      (modifyCrimp p (fun k => { k with jawClosed := false, stroke := none })
        (modifyPocket p (fun k => { k with step := .idle }) s))
  else s

/-! ### Changes of the line state (R153) -/

/-- Table 8.2: the states with the run permit on. -/
def permitIn : LineState → Bool
  | .starting | .run | .drain => true
  | .stopped | .halt => false

/-- Whether pitches are judged and charges may open: RUN and DRAIN. -/
def runOrDrain : LineState → Bool
  | .run | .drain => true
  | _ => false

/-- R14: the stall timer after the run permit changed: it starts when permit and drive ready become both true, and stops
when the permit goes off. -/
def stallAfter (permit : Bool) (s : State) : Timer :=
  if permit then
    if s.line.runPermit then s.position.stallTimer
    else if s.inputs.driveReady then some s.config.stallTime else none
  else none

/-- The line state is set, with the run permit (R153), the stall timer (R14), the sync timer, which stops on leaving
STARTING (R155), and the drain cause, which is present in DRAIN alone (Table 8.1). -/
def setLine (after : LineState) (drain : Option DrainCause) (s : State) : State :=
  { s with
    position := { s.position with stallTimer := stallAfter (permitIn after) s },
    line := { s.line with state := after, runPermit := permitIn after, drainCause := drain,
                          syncTimer := if after = .starting then s.line.syncTimer else none } }

/-- R13: an open overspeed episode closes without a pitch time. -/
def endEpisode (s : State) : State :=
  if s.position.overspeedOpen then
    sendReport (.overspeedEnd none)
      { s with position := { s.position with overspeedOpen := false, overspeedRun := 0 } }
  else s

/-- R153: the hand-offs of a change of line state: the infeed gate (R23), the overspeed episode (R13), an ARMED
changeover (R148). "When the line leaves RUN or DRAIN" (R13, R153) is read as leaving the two together, so an open episode and
its run count go on from RUN to DRAIN (log 35, DEDUCED). -/
def handOffLine (before after : LineState) (s : State) : State :=
  let s := if before = .run ∧ after ≠ .run then { s with infeedGate := false } else s
  let s := if runOrDrain before ∧ ¬ runOrDrain after then endEpisode s else s
  if (before = .run ∨ before = .starting) ∧ after ≠ .run ∧ after ≠ .starting then failChangeover .lineStop s else s

/-- R153: a change of the line state with its hand-offs and its LINE_STATE report. `also` is what the owner of the change
hands on besides. Where the change fails an ARMED changeover, on RUN to DRAIN or STARTING to STOPPED, its CHANGEOVER report is
sent before LINE_STATE: R148 and R153 order the two LOT reports nowhere, and this is the model's choice (log 38). What `also`
sends comes first, so that at the completion of DRAIN the INTERRUPTED reports of heads are sent before OVERSPEED (end): the
model's choice too (log 40). -/
def changeLine (after : LineState) (drain : Option DrainCause) (event : LineEvent) (also : State → State) (s : State) :
    State :=
  let before := s.line.state
  sendReport (.lineState before after event) (handOffLine before after (also (setLine after drain s)))

/-! ### HALT (R159 to R161) -/

/-- R40: one pocket at HALT entry. -/
def haltPocket (k : Pocket) : Pocket :=
  match k.content with
  | .can r =>
    { k with seatWatch := false, halted := true, content := if k.halted then .can r else .can (withReasons [.halted] r) }
  | _ => { k with seatWatch := false, halted := k.halted || (k.step = .offered) }

/-- R40: every pocket at HALT entry. -/
def haltPockets (s : State) : State := { s with pockets := Vector.ofFn fun p => haltPocket s.pockets[p] }

/-- R78: one head at HALT entry: a stroke of kind CAN ends, with its peak discarded. -/
def haltCrimp (k : CrimpHead) : CrimpHead :=
  match k.stroke with
  | some st =>
    match st.kind with
    | .can _ => { k with stroke := none }
    | .calibration => k
  | none => k

/-- R78: every head at HALT entry. -/
def haltStrokes (s : State) : State := { s with crimp := Vector.ofFn fun p => haltCrimp s.crimp[p] }

/-- R159, step 3: HALT entry is handed to the other blocks (R40, R53, R78, R42), in the order of log 27. The interrupted
calibrations, and with them the INTERRUPTED reports of their heads, go by rising head number: the spec gives no order among
heads, and this one is the model's choice (log 33). -/
def haltBlocks (s : State) : State := forHeads interruptCalibration (haltStrokes (haltGas (haltPockets s)))

/-- The bit of a halt cause in the later-causes set (Table 10.3). -/
def haltBit (c : HaltCause) : BitVec 16 := 1 <<< (codeHalt c - 1)

/-- R161: the halt record written at HALT entry. -/
def newHaltRecord (cause : HaltCause) (lineLeft : LineState) (s : State) : HaltRecord :=
  { first := cause, lineLeft := lineLeft, sync := s.position.sync, position := s.position.position,
    pitchCounter := s.position.pitchCounter, lastRequest := s.line.lastRequest, later := 0 }

/-- R160: in HALT with the standstill indicator set the line enters STOPPED. -/
def checkStandstill (s : State) : State :=
  if s.line.state = .halt ∧ s.position.standstill then changeLine .stopped none .standstill id s else s

/-- R159: the line enters HALT. HALT_ENTERED is sent before LINE_STATE. -/
def enterHalt (cause : HaltCause) (s : State) : State :=
  let before := s.line.state
  let s := setLine .halt none s
  let s := { s with line := { s.line with haltRecord := some (newHaltRecord cause before s) } }
  let s := handOffLine before .halt (haltBlocks s)
  checkStandstill (sendReport (.lineState before .halt (.halt cause)) (sendReport (.haltEntered cause) s))

/-- R161: a halt cause taken in HALT joins the later causes, unless it is the first. -/
def joinLaterCauses (cause : HaltCause) (s : State) : State :=
  { s with line := { s.line with
    haltRecord := s.line.haltRecord.map fun r => if r.first = cause then r else { r with later := r.later ||| haltBit cause } } }

/-- R159: a halt cause is handed to line control. -/
def takeHaltCause (cause : HaltCause) (s : State) : State :=
  match s.line.state with
  | .starting | .run | .drain => enterHalt cause s
  | .halt => joinLaterCauses cause s
  | .stopped => s

/-! ### DRAIN (R156 to R158) -/

/-- R158: DRAIN completes. The interrupted calibrations, and with them the INTERRUPTED reports of their heads, go by rising
head number: the spec gives no order among heads, and this one is the model's choice (log 33). With an overspeed episode open
they are sent before OVERSPEED (end), of the same level: R153 and R158 order the two nowhere, and this is the model's choice
(log 40). -/
def completeDrain (s : State) : State := changeLine .stopped none .drainComplete (forHeads interruptCalibration) s

/-- R158: DRAIN completes when the pocket table and the trail both show empty. -/
def checkDrain (s : State) : State :=
  if s.line.state = .drain ∧ pocketsEmpty s ∧ s.trail.entries = [] then completeDrain s else s

/-- R157: a drain cause is handed to line control. -/
def takeDrainCause (cause : DrainCause) (s : State) : State :=
  match s.line.state with
  | .run => checkDrain (changeLine .drain (some cause) (.drain cause) id s)
  | .starting => changeLine .stopped none (.drain cause) id s
  | _ => s

/-- R69: while the line is RUN, no channel in service hands NO_CHANNEL to line control. The CHANNEL_STATE report of the channel
that left service is sent before what the drain brings: the model's choice (log 40). -/
def checkInService (s : State) : State :=
  if s.line.state = .run ∧ channelsInService s = 0 then takeDrainCause .noChannel s else s

/-! ### Entering RUN (R15, R69, R154, R155) -/

/-- The line enters RUN and the channel unit makes its check (R69). -/
def enterRun (event : LineEvent) (s : State) : State := checkInService (changeLine .run none event id s)

/-- The line enters RUN in the event in which START_LINE is accepted; drive ready inactive hands DRIVE_FAULT (R15). -/
def startRun (s : State) : State :=
  let s := changeLine .run none .start id s
  checkInService (if s.inputs.driveReady then s else takeHaltCause .driveFault s)

/-- The line enters STARTING and the sync timer starts (R154). -/
def startStarting (s : State) : State :=
  let s := changeLine .starting none .start id s
  { s with line := { s.line with syncTimer := some (s.config.syncTimeout * 1000) } }

end Sys2Proof.Machine
end

