-- ==== Sys2Proof/Machine/Channels.lean ====
section
/-! DEFINITION. The channel unit: faults and returns to service, the settle and its dose result, the tare, the meter and the
creep window (R50 to R52, R55 to R64, R66, R68). Its clocks are in Machine/Time.lean. -/

namespace Sys2Proof.Machine

/-- R68: the CHANNEL_STATE report of a channel, read after its change. -/
def reportChannel (c : ChannelNo) (s : State) : State :=
  let ch := s.gas.channels[c]
  sendReport (.channelState c ch.state (if ch.state = .fault then ch.faultCause else none) ch.zeroOffset) s

/-- A channel enters FAULT: it leaves the tare queue, its off-pending flag clears, and the queue moves up (R55, R62, R68,
R69). -/
def enterFault (c : ChannelNo) (cause : ChannelFault) (s : State) : State :=
  let s := modifyChannel c
    (fun ch => { ch with state := .fault, faultCause := some cause, offPending := false, tareTimer := none }) s
  checkInService (tareStart (reportChannel c (leaveTareQueue c s)))

/-- A channel enters OFF, out of the tare queue if it was in it (R60, R63, R66, R68, R69). -/
def enterOff (c : ChannelNo) (s : State) : State :=
  let s := modifyChannel c (fun ch => { ch with state := .off, offPending := false, tareTimer := none }) s
  checkInService (tareStart (reportChannel c (leaveTareQueue c s)))

/-- R66: a channel leaves FAULT or OFF for the tail of the tare queue. Its report names TARE_WAIT, before it may enter
TARE at once (log 15). -/
def returnToService (c : ChannelNo) (s : State) : State :=
  let s := modifyChannel c
    (fun ch => { ch with chargesSinceTare := 0, timeSinceTare := 0, standing := 0, outOfBand := 0, tareDue := false,
                         faultCause := none }) s
  tareStart (reportChannel c (queueTare c s))

/-! ### The settle (R56 to R60) -/

/-- R57: whether a dose result is unmeasured. -/
def unmeasured (cause : CloseCause) (settleError : Bool) : Bool := cause = .noFlow || cause = .meter || settleError

/-- R57: the band check of a dose. -/
def doseBand (dose : Int) (g : Grant) : List Reason :=
  bandReasons dose (g.target - g.tolerance) (g.target + g.tolerance) .doseUnder .doseOver

/-- Table 3.4: the reasons of a dose result. -/
def doseReasons (cause : CloseCause) (settleError : Bool) (dose : Int) (g : Grant) : List Reason :=
  (if unmeasured cause settleError then [.doseUnmeasured] else doseBand dose g)
    ++ (if cause = .halt then [.chargeAborted] else [])

/-- Table 3.4: whether the band check counts in the out-of-band run. -/
def bandCounts (cause : CloseCause) (settleError : Bool) : Bool :=
  (cause = .target || cause = .forced) && !settleError

/-- R59: the run of out-of-band doses after a result. -/
def nextOutOfBand (cause : CloseCause) (settleError : Bool) (dose : Int) (g : Grant) (run : Nat) : Nat :=
  if bandCounts cause settleError then
    if doseBand dose g = [] then 0 else saturatingSucc 3 run
  else run

/-- R60: the fault cause a channel's settle end leads to, if any, in the order NO_FLOW, METER, DOSE_RUN. -/
def settleFault (cause : CloseCause) (settleError : Bool) (dose : Int) (g : Grant) (run : Nat) : Option ChannelFault :=
  if cause = .noFlow then some .noFlow
  else if cause = .meter || settleError then some .meter
  else if bandCounts cause settleError && doseBand dose g ≠ [] && 3 ≤ run then some .doseRun
  else none

/-- The channel's own record after a settle end: the updates of R58 and R59, and the grant dropped (R60). -/
def settledChannel (g : Grant) (massAtClose : Int) (cause : CloseCause) (ch : Channel) : Channel :=
  { ch with
    settleTimer := none, grant := none,
    preact := if cause = .target && !ch.settleError then nextPreact ch.preact ch.accumulated massAtClose else ch.preact,
    outOfBand := nextOutOfBand cause ch.settleError ch.accumulated g ch.outOfBand }

/-- R60: the destination of a channel at its settle end. -/
def settleDestination (c : ChannelNo) (fault : Option ChannelFault) (s : State) : State :=
  match fault with
  | some cause => enterFault c cause s
  | none =>
    if s.gas.channels[c].offPending then enterOff c s
    else if s.gas.channels[c].tareDue then tareStart (queueTare c s)
    else enterIdle c s

/-- R56: the settle of channel c ends. -/
def endSettle (c : ChannelNo) (s : State) : State :=
  let ch := s.gas.channels[c]
  match ch.grant, ch.lastClose with
  | some g, some (massAtClose, cause) =>
    let dose := ch.accumulated
    let after := settledChannel g massAtClose cause ch
    let s := setChannel c after s
    let s := deliver g.pocket { lot := g.lot, serial := g.serial }
      (fun r => withReasons (doseReasons cause ch.settleError dose g) { r with dose := some dose }) s
    settleDestination c (settleFault cause ch.settleError dose g after.outOfBand) s
  | _, _ => s

/-! ### The tare (R63) -/

/-- The channel's own record at a tare end. -/
def taredChannel (ch : Channel) : Channel :=
  { ch with tareTimer := none, zeroOffset := ch.standing, standing := 0, chargesSinceTare := 0, timeSinceTare := 0,
            tareDue := false }

/-- R63: the tare of channel c ends. -/
def endTare (c : ChannelNo) (s : State) : State :=
  let s := leaveTareQueue c (modifyChannel c taredChannel s)
  let ch := s.gas.channels[c]
  if 300 < ch.zeroOffset.natAbs then enterFault c .drift s
  else if ch.offPending then enterOff c s
  else tareStart (enterIdle c s)

/-! ### Creep (R64) -/

/-- The sum of the increments in a creep window. -/
def creepSum (w : List (Nat × Int)) : Int := (w.map Prod.snd).sum

/-- R64: the creep of an IDLE channel is judged. -/
def judgeCreep (c : ChannelNo) (s : State) : State :=
  if s.gas.channels[c].state = .idle ∧ 20 < creepSum s.gas.channels[c].creepWindow then enterFault c .creep s else s

/-! ### Increments and meter errors (R50, R55, R56, R64) -/

/-- An increment taken with the valve shut joins the standing reading (R64). -/
def addStanding (mg : Int) (ch : Channel) : Channel := { ch with standing := saturate16 (ch.standing + mg) }

/-- An increment taken in CHARGING or SETTLING joins the accumulated mass (R50, R56). -/
def addMass (mg : Int) (ch : Channel) : Channel :=
  { ch with accumulated := saturate16 (ch.accumulated + mg), noFlowTimer := none }

/-- R50: the close threshold is met. -/
def thresholdMet (ch : Channel) : Bool :=
  match ch.grant with
  | some g => (g.target : Int) - ch.preact ≤ ch.accumulated
  | none => false

/-- R50, R56, R64: a mass increment is taken according to the channel state. -/
def takeIncrement (c : ChannelNo) (mg : Int) (s : State) : State :=
  match s.gas.channels[c].state with
  | .charging =>
    let s := modifyChannel c (addMass mg) s
    if thresholdMet s.gas.channels[c] then closeCharge c .target s else s
  | .settling => modifyChannel c (addMass mg) s
  | .tareWait | .tare => modifyChannel c (addStanding mg) s
  | .idle =>
    judgeCreep c (modifyChannel c
      (fun ch => { addStanding mg ch with creepWindow := ch.creepWindow ++ [(s.timebase, mg)] }) s)
  | .fault | .off => s

/-- R55: a meter error indication is taken according to the channel state. -/
def takeMeterError (c : ChannelNo) (s : State) : State :=
  match s.gas.channels[c].state with
  | .charging => closeCharge c .meter s
  | .settling => modifyChannel c (fun ch => { ch with settleError := true }) s
  | .idle | .tareWait | .tare => enterFault c .meter s
  | .fault | .off => s

/-! ### SET_CHANNEL and SET_CONFIG (R61, R66) -/

/-- Table 3.5, action OFF. -/
def switchOff (c : ChannelNo) (s : State) : State :=
  match s.gas.channels[c].state with
  | .idle | .tareWait => enterOff c s
  | .tare | .charging | .settling => modifyChannel c (fun ch => { ch with offPending := true }) s
  | .fault | .off => s

/-- Table 3.5, action ON. -/
def switchOn (c : ChannelNo) (s : State) : State :=
  match s.gas.channels[c].state with
  | .idle | .tareWait => s
  | .tare | .charging | .settling => modifyChannel c (fun ch => { ch with offPending := false }) s
  | .fault | .off => returnToService c s

/-- R61, R167: at an accepted SET_CONFIG an IDLE channel that now meets either interval falls due. The caller goes by
rising channel number (log 32). R61 compares every channel's counters, R167 every IDLE channel's: that a channel in SETTLING
is not due by this comparison is the model's choice (log 41). -/
def recheckTare (c : ChannelNo) (s : State) : State :=
  let ch := s.gas.channels[c]
  if ch.state = .idle ∧ (s.config.tareIntervalCount ≤ ch.chargesSinceTare
      ∨ s.config.tareIntervalTime * 1000000 ≤ ch.timeSinceTare) then setTareDue c s
  else s

end Sys2Proof.Machine
end

