-- ==== Sys2Proof/Machine/Health.lean ====
section
/-! DEFINITION. The head health unit: verdict points, the reseat ladder, calibration decisions, stuck bells, retirement
and overflow, and the requests that move a head (R87 to R102). -/

namespace Sys2Proof.Machine

/-- R88: the tallies raised by the classes of a verdict point. -/
def raiseTallies (c : FaultClasses) (t : Tallies) : Tallies :=
  { t with
    seat := if c.seat then saturatingSucc 65535 t.seat else t.seat,
    dose := if c.dose then saturatingSucc 65535 t.dose else t.dose,
    crimp := if c.crimp then saturatingSucc 65535 t.crimp else t.crimp,
    jaw := if c.jaw then saturatingSucc 65535 t.jaw else t.jaw }

/-- R98: whether the retirement table already holds L + 1 entries. -/
def tableFull (s : State) : Bool := s.config.retirementLimit + 1 ≤ s.retirements.length

/-- R99: the retirement count exceeds L. -/
def overLimit (s : State) : Bool := s.config.retirementLimit < s.retirements.length

/-- R91, R94, R96, R97, R98: a retirement of head p with a cause: RETIRED with an entry at the tail of the table, or OUT by
overflow when the table is full. -/
def retireHead (p : PocketNo) (cause : RetireCause) (event : HeadEvent) (s : State) : State :=
  if tableFull s then
    moveHead p .overflow (fun h => { h with state := .out, cause := some cause, overflow := true, remainder := 0 }) s
  else
    let entry : Retirement := { pocket := p, cause := cause, lastCan := s.heads[p].lastCan }
    moveHead p event (fun h => { h with state := .retired, cause := some cause, overflow := false, remainder := 0 })
      { s with retirements := s.retirements ++ [entry] }

/-- R99: a retirement that leaves the count above L hands RETIREMENT_LIMIT to line control. `full` says whether the table
was full before, so that the retirement was an overflow and hands nothing. The HEAD_STATE report of the retirement is sent
before what the drain brings: the model's choice (log 40). -/
def handLimit (full : Bool) (s : State) : State :=
  if ¬ full ∧ overLimit s then takeDrainCause .retirementLimit s else s

/-- A retirement with the cause it hands on (R97 to R99). -/
def retire (p : PocketNo) (cause : RetireCause) (event : HeadEvent) (s : State) : State :=
  handLimit (tableFull s) (retireHead p cause event s)

/-- R88: last can, tallies and consecutive count at a verdict point. -/
def countVerdict (classes : FaultClasses) (id : CanId) (h : Head) : Head :=
  { h with lastCan := some id, tallies := raiseTallies classes h.tallies,
           consecutive := if anyClass classes then saturatingSucc 255 h.consecutive else 0 }

/-- R88 to R92: a verdict point of head p. -/
def verdict (p : PocketNo) (classes : FaultClasses) (id : CanId) (s : State) : State :=
  let s := setHead p (countVerdict classes id s.heads[p]) s
  let h := s.heads[p]
  match h.state with
  | .inService =>
    if s.config.reseatThreshold ≤ h.consecutive then moveHead p .verdict (fun h => { h with state := .reseatPending }) s
    else s
  | .probation =>
    if anyClass classes then retire p .threshold .verdict s
    else
      moveHead p .verdict
        (fun h => if h.remainder ≤ 1 then { h with remainder := 0, state := .inService, consecutive := 0 }
          else { h with remainder := h.remainder - 1 }) s
  | .reseatPending | .reseating | .retired | .out => s

/-- R93: a RESEAT_PENDING head begins its calibration revolution. -/
def startReseat (p : PocketNo) (s : State) : State :=
  moveHead p .reseatStart (fun h => { h with state := .reseating }) s

/-- R94: whether a candidate is within the calibration limit; an absent one is beyond it. -/
def candidateAccepted (candidate : Option Int) (limit : Nat) : Bool :=
  match candidate with
  | some c => c.natAbs ≤ limit
  | none => false

/-- R94: a calibration candidate, or its absence, is decided; in a state other than RESEATING it is discarded. -/
def decideCalibration (p : PocketNo) (candidate : Option Int) (s : State) : State :=
  if s.heads[p].state = .reseating then
    if candidateAccepted candidate s.config.calibrationLimit then
      moveHead p .calibration
        (fun h => { h with zeroOffset := candidate.getD h.zeroOffset, remainder := s.config.probationCount,
                           state := .probation }) s
    else
      retire p .cal .calibration
        (setHead p
          { s.heads[p] with
            tallies := { s.heads[p].tallies with cal := saturatingSucc 65535 s.heads[p].tallies.cal } } s)
  else s

/-- R96: the cause of a retired head's entry becomes STUCK, in its place. -/
def entryStuck (p : PocketNo) (r : Retirement) : Retirement := if r.pocket = p then { r with cause := .stuck } else r

/-- R96: a stuck bell at head p; the cause of R99, where there is one, is handed by the caller after HEAD_STUCK. -/
def stuckHead (p : PocketNo) (id : CanId) (s : State) : State :=
  let h := s.heads[p]
  let s := setHead p
    { h with lastCan := some id, tallies := { h.tallies with stuck := saturatingSucc 65535 h.tallies.stuck } } s
  match h.state with
  | .retired =>
    { setHead p { s.heads[p] with cause := some .stuck } s with retirements := s.retirements.map (entryStuck p) }
  | .reseating => s
  | .inService | .reseatPending | .probation | .out => retireHead p .stuck .stuck s

/-- R97: a head's entry leaves the retirement table, and the entries behind it close up. -/
def dropEntry (p : PocketNo) (s : State) : State :=
  { s with retirements := s.retirements.filter fun r => r.pocket ≠ p }

/-- R100: RESTORE_HEAD of a RETIRED head. -/
def restoreRetired (p : PocketNo) (s : State) : State :=
  moveHead p .restore
    (fun h => { h with state := .reseatPending, consecutive := 0, remainder := 0, cause := none }) (dropEntry p s)

/-- R101: SET_HEAD_OUT, direction OUT. -/
def headOut (p : PocketNo) (s : State) : State :=
  moveHead p .setOut
    (fun h => { h with state := .out, consecutive := 0, remainder := 0, cause := none, overflow := false })
    (dropEntry p s)

/-- R102: SET_HEAD_OUT, direction IN, of an OUT head. -/
def headIn (p : PocketNo) (s : State) : State :=
  moveHead p .setIn
    (fun h => { h with state := .reseatPending, consecutive := 0, remainder := 0, cause := none, overflow := false }) s

/-- R108, R169: a head after RESTART. Zero offset and tallies are kept; RETIRED and OUT are kept, with their cause, and
OUT with its overflow flag; every other piece takes its power-on value (R107). -/
def restartedHead (h : Head) : Head :=
  let kept : Head := { Head.initial with zeroOffset := h.zeroOffset, tallies := h.tallies }
  match h.state with
  | .inService => kept
  | .reseatPending | .probation | .reseating => { kept with state := .reseatPending }
  | .retired => { kept with state := .retired, cause := h.cause }
  | .out => { kept with state := .out, cause := h.cause, overflow := h.overflow }

end Sys2Proof.Machine
end

