-- ==== Sys2Proof/Machine/Trail.lean ====
section
/-! DEFINITION. The discharge trail, the reject gate and the trace buffer (R109 to R128). -/

namespace Sys2Proof.Machine

/-! ### Entries -/

/-- Reasons added to an entry: to the can record of a REAL entry, to the purge reasons of a PURGE entry. -/
def markEntry (reason : Reason) (e : TrailEntry) : TrailEntry :=
  { e with kind := match e.kind with
      | .real r => .real (withReasons [reason] r)
      | .purge p rs => .purge p (addReason rs reason) }

/-- R109: a new entry at the tail, with no weight and no gate command. -/
def appendEntry (kind : EntryKind) (s : State) : State :=
  let e : TrailEntry := { kind := kind, dischargePitch := s.position.pitchCounter, weight := none, lane := none }
  { s with trail := { s.trail with entries := s.trail.entries ++ [e] } }

/-- The entries of the trail changed by a function where a test holds for their discharge pitch. -/
def updateEntry (pitch : Word32) (f : TrailEntry → TrailEntry) (entries : List TrailEntry) : List TrailEntry :=
  entries.map fun e => if e.dischargePitch = pitch then f e else e

/-- The can of a REAL entry. -/
def entryCan (e : TrailEntry) : Option CanId :=
  match e.kind with
  | .real r => some (canId r)
  | .purge _ _ => none

/-- The weight band of a can record's slot at its bound generation (R113, R116). -/
def weightBandOf (r : CanRecord) (s : State) : Option (Nat × Nat) := (recipeIn r.slot s).bind (·.weightBand)

/-! ### The gate (R116 to R118) -/

/-- R116, R117: the gate is commanded, and the watch opens unless the sensor already shows the position. -/
def commandGate (lane : GatePos) (entry : Option Word32) (s : State) : State :=
  { s with trail := { s.trail with
    gateCommand := lane,
    watch := if s.inputs.gateSensor = some lane then none
      else some { entry := entry, settle := s.config.gateSettleTime } } }

/-- The entry of a gate watch. -/
def watchedEntry (w : GateWatch) (s : State) : Option TrailEntry :=
  w.entry.bind fun pitch => s.trail.entries.find? (·.dischargePitch = pitch)

/-- R118: the open gate watch ends unconfirmed. -/
def gateUnconfirmed (s : State) : State :=
  match s.trail.watch with
  | none => s
  | some w =>
    let can := (watchedEntry w s).bind entryCan
    let entries := match w.entry with
      | some pitch => updateEntry pitch (markEntry .gateUnconfirmed) s.trail.entries
      | none => s.trail.entries
    let s := { s with trail := { s.trail with entries := entries, watch := none } }
    takeHaltCause .gateFault
      (sendReport (.gateFault s.trail.gateCommand s.inputs.gateSensor s.position.pitchCounter can) s)

/-- R116, step 1: a REAL entry with no weight gets WEIGHT_MISSING while W is above 0 and its recipe has a band. -/
def missWeight (e : TrailEntry) (s : State) : TrailEntry :=
  match e.kind with
  | .real r =>
    if e.weight = none ∧ s.config.weigherDistance ≠ 0 ∧ (weightBandOf r s).isSome then markEntry .weightMissing e else e
  | .purge _ _ => e

/-- R116, step 2: the lane of an entry. -/
def entryLane (e : TrailEntry) : GatePos :=
  match e.kind with
  | .real r => laneOf r.reasons
  | .purge _ _ => .hold

/-- R116: the gate is commanded for an entry. -/
def commandEntry (e : TrailEntry) (s : State) : State :=
  let e := missWeight e s
  let lane := entryLane e
  commandGate lane (some e.dischargePitch)
    { s with trail := { s.trail with
      entries := updateEntry e.dischargePitch (fun _ => { e with lane := some lane }) s.trail.entries } }

/-- R110, step 3: the gate is commanded for the entry due at the next pitch, or to HOLD with no entry. -/
def commandNext (pitch : Word32) (s : State) : State :=
  match s.trail.entries.find? fun e => e.dischargePitch + BitVec.ofNat 32 s.config.gateDistance - 1 = pitch with
  | some e => commandEntry e s
  | none => commandGate .hold none s

/-! ### Arrival (R119 to R122, R127) -/

/-- R122: the record number that follows, 1 after 4294967295. -/
def nextRecordNumber (n : Word32) : Word32 := if n = 0xFFFFFFFF then 1 else n + 1

/-- R122, R127: a trace record is created from an entry that has left the trail. -/
def createRecord (e : TrailEntry) (d : Disposition) (pitch : Word32) (s : State) : State :=
  let record : TraceRecord :=
    { number := s.trace.nextNumber, disposition := d, lane := e.lane.getD .hold, kind := e.kind,
      dischargePitch := e.dischargePitch, gatePitch := pitch, weight := e.weight }
  let s := { s with trace := { s.trace with
    records := s.trace.records ++ [record], nextNumber := nextRecordNumber s.trace.nextNumber } }
  if traceFill s = 8 then sendReport (.traceWaiting 8) s
  else if traceFill s = 96 then sendReport (.traceHigh 96 (cansInFlight s)) s
  else s

/-- R119, R120: an entry arrives at the gate, with the eye latch as read at the crossing. The record is created first, then the
can is counted in its lot, then CAN_MISSING is sent: no rule orders TRACE_HIGH (R127), what the count brings and CAN_MISSING
(R119), of which two or more can be of level FAULT, and this order, the one in which Table 6.3 lists the outcomes, is the
model's choice (log 40). -/
def arrive (e : TrailEntry) (seen : Bool) (pitch : Word32) (s : State) : State :=
  match e.kind with
  | .real r =>
    if seen then
      let d := laneDisposition (laneOf r.reasons)
      countArrival r.lot d (createRecord e d pitch s)
    else
      sendReport (.canMissing pitch (canId r) r.pocket) (countArrival r.lot .missing (createRecord e .missing pitch s))
  | .purge _ _ => if seen then createRecord e .hold pitch s else s

/-- R110, step 2: the eye latch is read and cleared, and the entry due arrives; a can seen with none due is a stray
(R121). -/
def arrivals (pitch : Word32) (s : State) : State :=
  let seen := s.trail.eyeLatch
  let due := fun (e : TrailEntry) => e.dischargePitch + BitVec.ofNat 32 s.config.gateDistance = pitch
  match s.trail.entries.find? fun e => due e with
  | some e =>
    arrive e seen pitch { s with trail := { s.trail with
      eyeLatch := false, entries := s.trail.entries.filter fun e => ¬ due e } }
  | none =>
    let s := { s with trail := { s.trail with eyeLatch := false } }
    if seen then sendReport (.strayCan pitch) s else s

/-- R110: the trail at a pitch-boundary crossing. -/
def trailCrossing (s : State) : State :=
  let pitch := s.position.pitchCounter
  commandNext pitch (arrivals pitch (gateUnconfirmed s))

/-! ### Weighing (R112 to R115) -/

/-- R112: whether an entry is eligible for a weigher record. -/
def eligible (pitch : Word32) (weigherDistance : Nat) (e : TrailEntry) : Bool :=
  weigherDistance ≤ (pitch - e.dischargePitch).toNat && e.weight.isNone

/-- R113: the reasons of a record judged before the gate command. -/
def weightReasons (reading : Option Word16) (band : Option (Nat × Nat)) : List Reason :=
  match band, reading with
  | none, _ => []
  | some _, none => [.weightMissing]
  | some (low, high), some w => bandReasons w.toNat low high .weightLow .weightHigh

/-- R113, R114: a record is stored in the entry it matched, late or judged. -/
def matchWeight (reading : Option Word16) (s : State) (e : TrailEntry) : TrailEntry :=
  let late := e.lane.isSome
  let e := { e with weight := some { reading := reading, late := late } }
  if late then e
  else
    match e.kind with
    | .real r => { e with kind := .real (withReasons (weightReasons reading (weightBandOf r s)) r) }
    | .purge _ _ => e

/-- R112 to R115: a weigher record is matched to the oldest eligible entry, or is an orphan. -/
def takeWeight (reading : Option Word16) (s : State) : State :=
  if s.config.weigherDistance = 0 then s
  else
    let pitch := s.position.pitchCounter
    match s.trail.entries.find? (eligible pitch s.config.weigherDistance) with
    | some e =>
      { s with trail := { s.trail with
        entries := updateEntry e.dischargePitch (matchWeight reading s) s.trail.entries } }
    | none =>
      let s := sendReport (.orphanWeight pitch reading s.trail.entries.length) s
      { s with trail := { s.trail with entries := s.trail.entries.map (markEntry .trackLost) } }

/-! ### Admission space (R21, R126) -/

/-- R21: room for one more can. -/
def hasSpace (s : State) : Bool := traceFill s + cansInFlight s + offeredPockets s + 1 ≤ 128

/-- R126: the admission-held flag and its report after an admission query. -/
def noteQuery (s : State) : State :=
  if hasSpace s = s.trace.admissionHeld then
    sendReport (.admissionHeld (!hasSpace s) (traceFill s) (cansInFlight s) (offeredPockets s))
      { s with trace := { s.trace with admissionHeld := !hasSpace s } }
  else s

/-! ### Loss of position (R6, R109, R111) -/

/-- R6, R109: every entry leaves the trail, REAL entries counted lost; the gate returns to rest at HOLD. -/
def loseTrail (s : State) : State :=
  let entries := s.trail.entries
  let s := { s with trail := { s.trail with entries := [], eyeLatch := false } }
  let s := entries.foldl (fun s e => match e.kind with
    | .real r => countLost r.lot s
    | .purge _ _ => s) s
  commandGate .hold none s

end Sys2Proof.Machine
end

