-- ==== Sys2Proof/Machine/Crossings.lean ====
section
/-! DEFINITION. The pocket table and the crimp unit: what each station crossing does to a pocket, and the inputs of the
heads between crossings (R18 to R35, R41, R71 to R84). -/

namespace Sys2Proof.Machine

/-! ### ADMIT (R19 to R23) -/

/-- R20: the conditions of an offer, before the trace buffer is asked. -/
def offerable (p : PocketNo) (s : State) : Bool :=
  s.line.state = .run && s.position.sync = .synced && s.pockets[p].content = .empty
    && (s.heads[p].state = .inService || s.heads[p].state = .probation)

/-- R20, R23: the pocket is offered a can, bound as the lot register gives. -/
def offerCan (p : PocketNo) (s : State) : State :=
  let s := offerLot p { s with infeedGate := true }
  modifyPocket p (fun k => { k with step := .offered, binding := emptyPassBinding s }) s

/-- R19, R22, R23: the pocket passes with an empty-pass binding; an EMPTY pocket of a RESEAT_PENDING head starts its
calibration revolution in RUN and DRAIN. -/
def passEmpty (p : PocketNo) (s : State) : State :=
  let s := { s with infeedGate := false }
  let s := modifyPocket p (fun k => { k with binding := emptyPassBinding s }) s
  if s.heads[p].state = .reseatPending ∧ runOrDrain s.line.state ∧ s.pockets[p].content = .empty then
    startReseat p (modifyPocket p (fun k => { k with step := .calPass }) s)
  else s

/-- The ADMIT crossing (R19 to R23). A pocket that is not IDLE, which no run brings to ADMIT, is left as it is and the
infeed gate is commanded closed (log 22). -/
def admitCrossing (p : PocketNo) (s : State) : State :=
  if s.pockets[p].step ≠ .idle then { s with infeedGate := false }
  else if offerable p s then
    let granted := hasSpace s
    let s := noteQuery s
    if granted then offerCan p s else passEmpty p s
  else passEmpty p s

/-! ### Admit check to charge open (R24 to R28) -/

/-- R24: the can record of an admitted can. -/
def newCan (p : PocketNo) (b : Binding) (serial : Nat) (overspeed halted : Bool) : CanRecord :=
  withReasons ((if overspeed then [.overspeed] else []) ++ (if halted then [.halted] else []))
    { lot := b.lot, serial := serial, pocket := p, slot := b.slot, generation := b.generation, reasons := 0,
      channel := none, dose := none, height := none, peakForce := none, jawClosePhase := none, overspeed := overspeed }

/-- R24: the can seen at admit check is admitted. -/
def admitCan (p : PocketNo) (b : Binding) (s : State) : State :=
  let serial := nextSerial b.lot s
  let s := leaveCounted p true (countAdmission b.lot s)
  modifyPocket p (fun k => { k with
    content := .can (newCan p b serial s.position.overspeedOpen k.halted), step := .loaded }) s

/-- R25: no can is seen at admit check. -/
def missCan (p : PocketNo) (b : Binding) (s : State) : State :=
  let s := modifyPocket p (fun k => { k with step := .idle, halted := false }) s
  countNoCan b.lot (leaveCounted p false s)

/-- R24, R25: the admit check crossing. -/
def admitCheckCrossing (p : PocketNo) (b : Binding) (s : State) : State :=
  if s.pockets[p].step = .offered then
    if s.inputs.canPresent[p] then admitCan p b s else missCan p b s
  else s

/-- Reasons added to the can in a pocket by the pocket table itself. -/
def addPocketReasons (l : List Reason) (k : Pocket) : Pocket :=
  { k with content := match k.content with
      | .can r => .can (withReasons l r)
      | other => other }

/-- R26: the cup check crossing. -/
def cupCheckCrossing (p : PocketNo) (s : State) : State :=
  let k := s.pockets[p]
  if k.step = .loaded ∧ ¬ k.halted then
    if s.inputs.cupPresent[p] then setPocket p { k with step := .cupped } s
    else setPocket p (addPocketReasons [.noCup] k) s
  else s

/-- R27: the seat crossing. -/
def seatCrossing (p : PocketNo) (s : State) : State :=
  let k := s.pockets[p]
  if k.step = .cupped ∧ ¬ k.halted then
    modifyCrimp p (fun h => { h with bellLowered := true })
      (if s.inputs.bellClosed[p] then setPocket p { k with step := .seated, seatWatch := false } s
      else setPocket p { k with seatWatch := true } s)
  else s

/-- R28: the charge open crossing; the seat watch closes at it (R27). -/
def chargeOpenCrossing (p : PocketNo) (s : State) : State :=
  let s := modifyPocket p (fun k => { k with seatWatch := false }) s
  let k := s.pockets[p]
  if k.halted then s
  else
    match k.step with
    | .seated => joinWaiting p (setPocket p { k with step := .waitCharge } s)
    | .cupped => setPocket p (addPocketReasons [.seatFail] k) s
    | _ => s

/-- R52: whether a channel is CHARGING for a pocket. -/
def chargesPocket (p : PocketNo) (ch : Channel) : Bool :=
  ch.state = .charging && (ch.grant.map (·.pocket)) = some p

/-- R52: the charge close crossing. -/
def chargeCloseCrossing (p : PocketNo) (s : State) : State :=
  forChannels (fun c s => if chargesPocket p s.gas.channels[c] then closeCharge c .forced s else s) s

/-! ### Crimp (R72, R73, R77, R82, R83) -/

/-- R72, R74: a stroke as it opens: CLOSED at once where CONFIRMED mode finds the jaw-closed input already active. -/
def openedStroke (kind : StrokeKind) (b : Binding) (jawClosed : Bool) : Stroke :=
  let already := b.jawMode = .confirmed && jawClosed
  { kind := kind, jawMode := b.jawMode, jawTime := b.jawTime, condition := if already then .closed else .waiting,
    jawTimer := if already then none else some b.jawTime,
    capture := match kind with
      | .can _ => some 0
      | .calibration => none }

/-- R72: a stroke opens on a can, with its jaw close phase where the jaw is already closed (R74). -/
def openCanStroke (p : PocketNo) (b : Binding) (id : CanId) (s : State) : State :=
  let st := openedStroke (.can id) b s.inputs.jawClosed[p]
  let s := modifyCrimp p (fun h => { h with jawClosed := true, stroke := some st }) s
  let s := modifyPocket p (fun k => { k with step := .crimping }) s
  if st.condition = .closed then deliver p id (fun r => { r with jawClosePhase := some b.phases.crimpStart }) s else s

/-- R72, R73: the crimp start crossing of a CHARGED pocket. -/
def startCrimp (p : PocketNo) (b : Binding) (s : State) : State :=
  match s.pockets[p].content with
  | .can r =>
    if s.inputs.cupPresent[p] then openCanStroke p b (canId r) s
    else deliver p (canId r) (withReasons [.heightLow, .forceLow]) s
  | _ => s

/-- R82: the crimp start crossing of a CAL_PASS pocket. -/
def startCalibration (p : PocketNo) (b : Binding) (s : State) : State :=
  let st := openedStroke .calibration b s.inputs.jawClosed[p]
  modifyCrimp p (fun h => { h with jawClosed := true, stroke := some st }) s

/-- R41, R72, R73, R82: the crimp start crossing; a halted pocket does not act. -/
def crimpStartCrossing (p : PocketNo) (b : Binding) (s : State) : State :=
  if s.pockets[p].halted then s
  else
    match s.pockets[p].step with
    | .charged => startCrimp p b s
    | .calPass => startCalibration p b s
    | _ => s

/-- R77: raw displacement minus zero offset, in µm; outside −32768 to 32767 the spec states no value and a free one is
taken (log 10). -/
def crimpHeight (raw zeroOffset : Int) (freeIx : Nat) : Int :=
  let h := raw - zeroOffset
  if -32768 ≤ h ∧ h ≤ 32767 then h else (Config.freeHeight freeIx).toInt

/-- The next index of the free values after a measurement (log 10). -/
def heightIx (raw zeroOffset : Int) (freeIx : Nat) : Nat :=
  let h := raw - zeroOffset
  if -32768 ≤ h ∧ h ≤ 32767 then freeIx else freeIx + 1

/-- R77, steps 1 and 4: the reasons of a measurement. -/
def crimpReasons (st : Stroke) (height : Int) (force : Nat) (recipe : Option Recipe) : List Reason :=
  (if st.condition = .waiting then [.jawLate] else [])
    ++ (match recipe with
        | some r =>
          bandReasons height r.heightLow r.heightHigh .heightLow .heightHigh
            ++ bandReasons force r.forceLow r.forceHigh .forceLow .forceHigh
        | none => [])

/-- R77: the stroke on a can ends with its measurement. -/
def measureCan (p : PocketNo) (b : Binding) (st : Stroke) (id : CanId) (s : State) : State :=
  let raw := s.inputs.displacement[p].toInt
  let offset := s.heads[p].zeroOffset
  let height := crimpHeight raw offset s.freeIx
  let force := st.capture.getD 0
  let reasons := crimpReasons st height force (recipeIn b.slot s)
  let s := { s with freeIx := heightIx raw offset s.freeIx }
  let s := deliver p id (fun r => withReasons reasons { r with height := some height, peakForce := some force }) s
  modifyPocket p (fun k => { k with step := .crimped }) (modifyCrimp p (fun h => { h with stroke := none }) s)

/-- R83: the calibration stroke ends and its candidate, or its absence, is handed to the head health unit. -/
def measureCalibration (p : PocketNo) (st : Stroke) (s : State) : State :=
  let candidate := if st.condition = .closed then some s.inputs.displacement[p].toInt else none
  decideCalibration p candidate (modifyCrimp p (fun h => { h with stroke := none }) s)

/-- R41, R77, R83: the crimp measure crossing; a halted pocket does not act. -/
def crimpMeasureCrossing (p : PocketNo) (b : Binding) (s : State) : State :=
  if s.pockets[p].halted then s
  else
    match s.crimp[p].stroke with
    | none => s
    | some st =>
      match st.kind, s.pockets[p].step with
      | .can id, .crimping => measureCan p b st id s
      | .calibration, .calPass => measureCalibration p st s
      | _, _ => s

/-! ### Release (R31, R32, R79, R84) -/

/-- R31, R79: jaw open, bell lift, and the bell-open watch, which closes at once where bell open is already active. -/
def releaseHead (p : PocketNo) (id : CanId) (s : State) : State :=
  modifyCrimp p (fun h => { h with bellLowered := false, jawClosed := false,
                                   watch := if s.inputs.bellOpen[p] then none else some id }) s

/-- R31, R32: the release crossing. -/
def releaseCrossing (p : PocketNo) (s : State) : State :=
  let k := s.pockets[p]
  match k.content with
  | .can r =>
    let s := setPocket p { k with step := .released } (releaseHead p (canId r) s)
    if k.halted then s else verdict p (faultClasses r.reasons) (canId r) s
  | _ => if k.step = .calPass then modifyCrimp p (fun h => { h with jawClosed := false }) s else s

/-! ### DISCHARGE (R33 to R35, R81) -/

/-- A pocket at the end of its revolution: IDLE, with its binding, halted mark and seat watch dropped. -/
def clearedPocket (content : Content) : Pocket :=
  { content := content, step := .idle, binding := none, halted := false, seatWatch := false }

/-- R34, R35: the pocket gives up its can record, counted lost in its lot. -/
def giveUpCan (p : PocketNo) (s : State) : State :=
  match s.pockets[p].content with
  | .can r => countLost r.lot (setPocket p (clearedPocket .unknown) s)
  | other => setPocket p (clearedPocket other) s

/-- R33: the pocket is handed to the trail and becomes EMPTY. -/
def handToTrail (p : PocketNo) (s : State) : State :=
  let s' := match s.pockets[p].content with
    | .can r => appendEntry (.real r) s
    | .unknown => appendEntry (.purge p (reasonBit .purge)) s
    | .empty => s
  setPocket p (clearedPocket .empty) s'

/-- R35, R81, R96: the bell-open watch is still open at DISCHARGE. Line control takes HEAD_STUCK before RETIREMENT_LIMIT,
where both are handed. The blocks are handed the event, and so send their reports, in the order of R81's list. -/
def headStuckAt (p : PocketNo) (id : CanId) (s : State) : State :=
  let s := modifyCrimp p (fun h => { h with watch := none }) s
  let s := giveUpCan p (sendReport (.headStuck p id s.line.state) s)
  let noEntry := tableFull s || s.heads[p].state = .retired || s.heads[p].state = .reseating
  handLimit noEntry (takeHaltCause .headStuck (stuckHead p id s))

/-- R33 to R35: the DISCHARGE crossing. -/
def dischargeCrossing (p : PocketNo) (s : State) : State :=
  match s.crimp[p].watch with
  | some id => headStuckAt p id s
  | none => if runOrDrain s.line.state then handToTrail p s else giveUpCan p s

/-! ### All crossings of a pocket (R8) -/

/-- The recipe-phase crossing of a bound pocket at a phase; no other phase is a crossing. -/
def recipeCrossing (p : PocketNo) (b : Binding) (phase : Nat) (s : State) : State :=
  if phase = b.phases.admitCheck then admitCheckCrossing p b s
  else if phase = b.phases.cupCheck then cupCheckCrossing p s
  else if phase = b.phases.seat then seatCrossing p s
  else if phase = b.phases.chargeOpen then chargeOpenCrossing p s
  else if phase = b.phases.chargeLatest then removeWaiting p s
  else if phase = b.phases.chargeClose then chargeCloseCrossing p s
  else if phase = b.phases.crimpStart then crimpStartCrossing p b s
  else if phase = b.phases.crimpMeasure then crimpMeasureCrossing p b s
  else if phase = b.phases.release then releaseCrossing p s
  else s

/-- R8: the crossing of pocket p at a phase: ADMIT at 0, DISCHARGE at 2520, and the phases of its binding. -/
def pocketCrossing (p : PocketNo) (phase : Nat) (s : State) : State :=
  if phase = 0 then admitCrossing p s
  else if phase = 2520 then dischargeCrossing p s
  else
    match s.pockets[p].binding with
    | some b => recipeCrossing p b phase s
    | none => s

/-! ### Inputs of a head between crossings (R27, R74 to R76, R80) -/

/-- R27: bell closed becomes active. -/
def bellClosedActive (p : PocketNo) (s : State) : State :=
  let k := s.pockets[p]
  if k.seatWatch then
    setPocket p { k with step := if k.step = .cupped then .seated else k.step, seatWatch := false } s
  else s

/-- R74: jaw closed becomes active. -/
def jawClosedActive (p : PocketNo) (s : State) : State :=
  match s.crimp[p].stroke with
  | some st =>
    if st.jawMode = .confirmed ∧ st.condition = .waiting then
      let s := modifyCrimp p (fun h => { h with stroke := some { st with condition := .closed, jawTimer := none } }) s
      match st.kind with
      | .can id =>
        deliver p id (fun r => { r with jawClosePhase := some (phaseAt (highWater s.position) p) }) s
      | .calibration => s
    else s
  | none => s

/-- R74, R75: the jaw timer of a WAITING stroke runs out. -/
def jawTimeout (p : PocketNo) (s : State) : State :=
  match s.crimp[p].stroke with
  | some st =>
    if st.jawTimer.isSome ∧ st.condition = .waiting then
      let condition : JawCondition := match st.jawMode with
        | .confirmed => .timedOut
        | .timed => .closed
      let s := modifyCrimp p (fun h => { h with stroke := some { st with condition := condition, jawTimer := none } }) s
      match st.jawMode, st.kind with
      | .confirmed, .can id => deliver p id (withReasons [.jawTimeout]) s
      | _, _ => s
    else s
  | none => s

/-- R76: a jaw-force reading while the force capture is open. -/
def followForce (p : PocketNo) (newtons : Int) (s : State) : State :=
  match s.crimp[p].stroke with
  | some st =>
    match st.capture with
    | some peak =>
      modifyCrimp p (fun h => { h with stroke := some { st with capture := some (max peak (clampForce newtons)) } }) s
    | none => s
  | none => s

/-- R80: bell open becomes active. -/
def bellOpenActive (p : PocketNo) (s : State) : State := modifyCrimp p (fun h => { h with watch := none }) s

end Sys2Proof.Machine
end

