-- ==== Sys2Proof/Machine/Operands.lean ====
section
/-! DEFINITION. The operand forms: the fields of request bodies as they are read, and every check of a field value, with
the field ids that refusals name (R9, R132, R167, R185, R187). -/

namespace Sys2Proof.Machine

/-! ### Reading fields (R185) -/

/-- The byte at an offset of a body. -/
def byteAt (body : List Byte) (i : Nat) : Byte := body.getD i 0

/-- The two-byte field at an offset. -/
def wordAt (body : List Byte) (i : Nat) : Word16 := byteAt body (i + 1) ++ byteAt body i

/-- The four-byte field at an offset. -/
def dwordAt (body : List Byte) (i : Nat) : Word32 := wordAt body (i + 2) ++ wordAt body i

/-- A head number, 0 to 23. -/
def headOf (b : Byte) : Option PocketNo := if h : b.toNat < 24 then some ⟨b.toNat, h⟩ else none

/-- A channel number, 0 to 3. -/
def channelOf (b : Byte) : Option ChannelNo := if h : b.toNat < 4 then some ⟨b.toNat, h⟩ else none

/-- A slot number, 0 to 7. -/
def slotOf (b : Byte) : Option SlotNo := if h : b.toNat < 8 then some ⟨b.toNat, h⟩ else none

/-- The first of two codes, 01h or 02h; no other code is in the field's table (R185). -/
def choiceOf {α : Type} (first second : α) (b : Byte) : Option α :=
  if b = 1 then some first else if b = 2 then some second else none

/-- Modes of STOP_LINE. -/
inductive StopMode where
  | controlled | immediate
  deriving DecidableEq, Repr

/-- STOP_LINE mode (Table 10.13). -/
def stopModeOf (b : Byte) : Option StopMode := choiceOf .controlled .immediate b

/-- SET_HEAD_OUT direction; true is OUT. -/
def directionOutOf (b : Byte) : Option Bool := choiceOf true false b

/-- SET_CHANNEL action; true is ON. -/
def actionOnOf (b : Byte) : Option Bool := choiceOf false true b

/-- Jaw mode. -/
def jawModeOf (b : Byte) : Option JawMode := choiceOf .confirmed .timed b

/-- A boundary, NEXT or AFTER n with n from 1 to 65535 (R145). -/
def boundaryOf (b : Byte) (n : Word16) : Option Boundary :=
  if b = 1 then some .next else if b = 2 ∧ n ≠ 0 then some (.after n.toNat) else none

/-! ### The recipe record and the configuration as bytes (Tables 10.2, 10.8) -/

/-- The nine phases in the order of Table 1.3. -/
def phaseList {α : Type} (p : PhasesOf α) : List α :=
  [p.admitCheck, p.cupCheck, p.seat, p.chargeOpen, p.chargeLatest, p.chargeClose, p.crimpStart, p.crimpMeasure,
    p.release]

/-- A function applied to each phase. -/
def mapPhases {α β : Type} (f : α → β) (p : PhasesOf α) : PhasesOf β :=
  { admitCheck := f p.admitCheck, cupCheck := f p.cupCheck, seat := f p.seat, chargeOpen := f p.chargeOpen,
    chargeLatest := f p.chargeLatest, chargeClose := f p.chargeClose, crimpStart := f p.crimpStart,
    crimpMeasure := f p.crimpMeasure, release := f p.release }

/-- The recipe record that stands at an offset of a body. -/
def recipeAt (body : List Byte) (o : Nat) : RecipeWire :=
  { nameLength := byteAt body o, nameChars := Vector.ofFn fun i => byteAt body (o + 1 + i.val),
    productCode := dwordAt body (o + 17), doseTarget := wordAt body (o + 21), doseTolerance := wordAt body (o + 23),
    supplyMinimum := wordAt body (o + 25),
    phases :=
      { admitCheck := wordAt body (o + 27), cupCheck := wordAt body (o + 29), seat := wordAt body (o + 31),
        chargeOpen := wordAt body (o + 33), chargeLatest := wordAt body (o + 35), chargeClose := wordAt body (o + 37),
        crimpStart := wordAt body (o + 39), crimpMeasure := wordAt body (o + 41), release := wordAt body (o + 43) },
    jawMode := byteAt body (o + 45), jawTime := wordAt body (o + 46), heightLow := wordAt body (o + 48),
    heightHigh := wordAt body (o + 50), forceLow := wordAt body (o + 52), forceHigh := wordAt body (o + 54),
    minimumPitch := dwordAt body (o + 56), bandPresence := byteAt body (o + 60), weightLow := wordAt body (o + 61),
    weightHigh := wordAt body (o + 63) }

/-- A recipe record as its 65 bytes (Table 10.8). -/
def recipeBytes (r : RecipeWire) : List Byte :=
  [r.nameLength] ++ (List.finRange 16).map (fun i => r.nameChars[i]) ++ le32 r.productCode ++ le16 r.doseTarget
    ++ le16 r.doseTolerance ++ le16 r.supplyMinimum ++ (phaseList r.phases).flatMap le16 ++ [r.jawMode]
    ++ le16 r.jawTime ++ le16 r.heightLow ++ le16 r.heightHigh ++ le16 r.forceLow ++ le16 r.forceHigh
    ++ le32 r.minimumPitch ++ [r.bandPresence] ++ le16 r.weightLow ++ le16 r.weightHigh

/-- The configuration that a SET_CONFIG body holds. -/
def configAt (body : List Byte) : ConfigWire :=
  { gateDistance := byteAt body 0, weigherDistance := byteAt body 1, retirementLimit := byteAt body 2,
    reseatThreshold := byteAt body 3, probationCount := byteAt body 4, calibrationLimit := wordAt body 5,
    gateSettleTime := byteAt body 7, stallTime := wordAt body 8, syncTimeout := byteAt body 10,
    tareIntervalCount := wordAt body 11, tareIntervalTime := wordAt body 13, quietTime := wordAt body 15,
    safeCeiling := dwordAt body 17 }

/-- A configuration as its 21 bytes (Table 10.2). -/
def configBytes (c : ConfigWire) : List Byte :=
  [c.gateDistance, c.weigherDistance, c.retirementLimit, c.reseatThreshold, c.probationCount]
    ++ le16 c.calibrationLimit ++ [c.gateSettleTime] ++ le16 c.stallTime ++ [c.syncTimeout]
    ++ le16 c.tareIntervalCount ++ le16 c.tareIntervalTime ++ le16 c.quietTime ++ le32 c.safeCeiling

/-! ### Validation -/

/-- The id of the first field whose check fails. -/
def firstBad : List (Nat × Bool) → Option Nat
  | [] => none
  | (id, ok) :: rest => if ok then firstBad rest else some id

/-- A value within inclusive bounds. -/
def within (n low high : Nat) : Bool := low ≤ n && n ≤ high

/-- The name of a recipe record: its first characters up to the length (R187). -/
def recipeName (r : RecipeWire) : List Byte :=
  ((List.finRange 16).map fun i => r.nameChars[i]).take r.nameLength.toNat

/-- Table 7.2, row 1. -/
def nameOk (r : RecipeWire) : Bool :=
  r.nameLength.toNat ≤ 16 && (recipeName r).all fun c => within c.toNat 0x20 0x7E

/-- The checks of Table 1.4 in the order of Table 1.3, fields 7 to 15 (R9). -/
def phaseChecks (p : PhasesOf Nat) : List (Nat × Bool) :=
  [(7, 30 ≤ p.admitCheck), (8, p.admitCheck + 30 ≤ p.cupCheck), (9, p.cupCheck + 30 ≤ p.seat),
    (10, p.seat + 30 ≤ p.chargeOpen), (11, p.chargeOpen + 30 ≤ p.chargeLatest),
    (12, p.chargeLatest + 30 ≤ p.chargeClose), (13, p.chargeClose + 120 ≤ p.crimpStart),
    (14, p.crimpStart + 30 ≤ p.crimpMeasure), (15, p.crimpMeasure + 30 ≤ p.release && p.release ≤ 2400)]

/-- The checks of Table 7.2 in their order; a recipe field's id is its order plus 1 (R132, R185). -/
def recipeChecks (r : RecipeWire) : List (Nat × Bool) :=
  [(2, nameOk r), (4, within r.doseTarget.toNat 1000 15000), (5, within r.doseTolerance.toNat 50 2000),
    (6, within r.supplyMinimum.toNat 2000 6000)]
    ++ phaseChecks (mapPhases BitVec.toNat r.phases)
    ++ [(16, (jawModeOf r.jawMode).isSome), (17, within r.jawTime.toNat 20 400), (18, within r.heightLow.toNat 0 9999),
      (19, r.heightHigh.toNat ≤ 9999 && r.heightLow.toNat < r.heightHigh.toNat),
      (20, within r.forceLow.toNat 0 30000),
      (21, r.forceHigh.toNat ≤ 30000 && r.forceLow.toNat < r.forceHigh.toNat),
      (22, within r.minimumPitch.toNat 150000 2000000), (23, r.bandPresence.toNat ≤ 1)]
    ++ (if r.bandPresence = 1 then
        [(24, within r.weightLow.toNat 0 20000),
          (25, r.weightHigh.toNat ≤ 20000 && r.weightLow.toNat < r.weightHigh.toNat)]
      else [])

/-- R132: the field that a BAD_VALUE refusal of the recipe fields names. -/
def recipeBadField (r : RecipeWire) : Option Nat := firstBad (recipeChecks r)

/-- A validated recipe record as the content of a slot (R132). -/
def recipeOf (r : RecipeWire) : Recipe :=
  { name := recipeName r, productCode := r.productCode, doseTarget := r.doseTarget.toNat,
    doseTolerance := r.doseTolerance.toNat, supplyMinimum := r.supplyMinimum.toNat,
    phases := mapPhases BitVec.toNat r.phases, jawMode := if r.jawMode = 2 then .timed else .confirmed,
    jawTime := r.jawTime.toNat, heightLow := r.heightLow.toNat, heightHigh := r.heightHigh.toNat,
    forceLow := r.forceLow.toNat, forceHigh := r.forceHigh.toNat, minimumPitch := r.minimumPitch.toNat,
    weightBand := if r.bandPresence = 1 then some (r.weightLow.toNat, r.weightHigh.toNat) else none }

/-- The content of a slot as READ_RECIPE returns it, padding and absent fields 0 (R187). -/
def recipeWireOf (r : Recipe) : RecipeWire :=
  { nameLength := n8 r.name.length, nameChars := Vector.ofFn fun i => r.name.getD i.val 0, productCode := r.productCode,
    doseTarget := BitVec.ofNat 16 r.doseTarget, doseTolerance := BitVec.ofNat 16 r.doseTolerance,
    supplyMinimum := BitVec.ofNat 16 r.supplyMinimum, phases := mapPhases (BitVec.ofNat 16) r.phases,
    jawMode := n8 (codeJawMode r.jawMode), jawTime := BitVec.ofNat 16 r.jawTime,
    heightLow := BitVec.ofNat 16 r.heightLow, heightHigh := BitVec.ofNat 16 r.heightHigh,
    forceLow := BitVec.ofNat 16 r.forceLow, forceHigh := BitVec.ofNat 16 r.forceHigh,
    minimumPitch := BitVec.ofNat 32 r.minimumPitch, bandPresence := flag8 r.weightBand.isSome,
    weightLow := BitVec.ofNat 16 ((r.weightBand.map Prod.fst).getD 0),
    weightHigh := BitVec.ofNat 16 ((r.weightBand.map Prod.snd).getD 0) }

/-- A configuration as received, in the units of Table 8.6. -/
def configOf (c : ConfigWire) : MachineConfig :=
  { gateDistance := c.gateDistance.toNat, weigherDistance := c.weigherDistance.toNat,
    retirementLimit := c.retirementLimit.toNat, reseatThreshold := c.reseatThreshold.toNat,
    probationCount := c.probationCount.toNat, calibrationLimit := c.calibrationLimit.toNat,
    gateSettleTime := c.gateSettleTime.toNat, stallTime := c.stallTime.toNat, syncTimeout := c.syncTimeout.toNat,
    tareIntervalCount := c.tareIntervalCount.toNat, tareIntervalTime := c.tareIntervalTime.toNat,
    quietTime := c.quietTime.toNat, safeCeiling := c.safeCeiling.toNat }

/-- The configuration as a reply carries it. -/
def configWireOf (c : MachineConfig) : ConfigWire :=
  { gateDistance := n8 c.gateDistance, weigherDistance := n8 c.weigherDistance, retirementLimit := n8 c.retirementLimit,
    reseatThreshold := n8 c.reseatThreshold, probationCount := n8 c.probationCount,
    calibrationLimit := BitVec.ofNat 16 c.calibrationLimit, gateSettleTime := n8 c.gateSettleTime,
    stallTime := BitVec.ofNat 16 c.stallTime, syncTimeout := n8 c.syncTimeout,
    tareIntervalCount := BitVec.ofNat 16 c.tareIntervalCount, tareIntervalTime := BitVec.ofNat 16 c.tareIntervalTime,
    quietTime := BitVec.ofNat 16 c.quietTime, safeCeiling := BitVec.ofNat 32 c.safeCeiling }

/-- The ranges of Table 8.6 in their order, W against the new D (R167). -/
def configChecks (c : MachineConfig) : List (Nat × Bool) :=
  [(1, within c.gateDistance 3 12), (2, c.weigherDistance + 2 ≤ c.gateDistance || c.weigherDistance = 0),
    (3, within c.retirementLimit 1 6), (4, within c.reseatThreshold 1 8), (5, within c.probationCount 1 8),
    (6, within c.calibrationLimit 50 1000), (7, within c.gateSettleTime 20 200), (8, within c.stallTime 20 1000),
    (9, within c.syncTimeout 1 60), (10, within c.tareIntervalCount 32 1024), (11, within c.tareIntervalTime 5 300),
    (12, c.quietTime = 0 || within c.quietTime 100 30000), (13, within c.safeCeiling 150000 2000000)]

/-- R167: the value that a BAD_VALUE refusal of the range checks names. -/
def configBadField (c : MachineConfig) : Option Nat := firstBad (configChecks c)

end Sys2Proof.Machine
end

