-- ==== Sys2Proof/Machine/Replies.lean ====
section
/-! DEFINITION. The bodies of accepted replies that show state (Tables 10.3 to 10.7): what each block supplies, read as it
stands when the reply is built. -/

namespace Sys2Proof.Machine

/-! ### What several replies read -/

/-- R133: a slot is in use. -/
def slotInUse (slot : SlotNo) (s : State) : Bool :=
  (match s.lots.changeover with
    | .none => false
    | .armed plan _ _ => plan.target = slot
    | .switching plan => plan.target = slot)
  || s.pockets.toList.any (fun k => (holdsCan k || k.step = .offered) && (k.binding.map (·.slot)) = some slot)
  || s.trail.entries.any (fun e => match e.kind with
      | .real r => r.slot = slot
      | .purge _ _ => false)
  || (activeSlot s = some slot && s.line.state ≠ .stopped)

/-- The reservation of a port (R136). -/
def reservationOf (port : Port) (s : State) : Option Reservation :=
  match port with
  | .line => s.recipes.lineReservation
  | .service => s.recipes.serviceReservation

/-- The report mask as a reply carries it, bit 3 set (R182, R183). -/
def maskByte (l : LinkController) : Byte := bits8 [l.maskTrace, l.maskLot, l.maskFault, true]

/-- The head's place in the retirement table, 1 for the oldest; 0 absent (R104). -/
def tablePosition (p : PocketNo) (s : State) : Nat :=
  let i := s.retirements.findIdx fun r => r.pocket = p
  if i < s.retirements.length then i + 1 else 0

/-- A slot number, FFh when absent (R185). -/
def slotByte (o : Option SlotNo) : Byte := (o.map fun n => n8 n.val).getD 0xFF

/-- A reservation: slot FFh when absent, and the generation. -/
def reservationBytes (o : Option Reservation) : List Byte :=
  slotByte (o.map (·.slot)) :: le16 ((o.map (·.generation)).getD 0)

/-! ### GET_STATUS (Table 10.4, R168) -/

/-- The stack lamp: bits 0 and 1 green, bit 2 amber, bits 3 and 4 red. -/
def lampByte (l : Lamp) : Byte :=
  n8 (codeLampMode l.green + 4 * (if l.amber = .off then 0 else 1) + 8 * codeLampMode l.red)

/-- The whole reply. -/
def statusBody (s : State) : List Byte :=
  [n8 (codeLineState s.line.state), opt8 codeDrain s.line.drainCause,
    bits8 [s.line.runPermit, s.inputs.driveReady, s.inputs.guardDoor, s.inputs.leak, s.line.latch.isSome, s.line.safe,
      s.line.haltRecord.isSome, s.position.standstill],
    opt8 codeLatch s.line.latch, n8 s.line.stage, lampByte s.line.lamp]
  ++ configBytes (configWireOf s.config)
  ++ [n8 (codeSync s.position.sync)] ++ n16 s.position.position ++ le32 s.position.pitchCounter
    ++ n32 (s.position.pitchTime.getD 0) ++ n32 s.position.speedCeiling
  ++ [n8 (canPockets s), n8 (unknownPockets s), n8 (offeredPockets s)]
  ++ (List.finRange 4).map (fun c => n8 (codeChannelState s.gas.channels[c].state))
    ++ [n8 (channelsInService s), n8 (codeSupply s.gas.supply)]
  ++ [n8 s.retirements.length, n8 s.config.retirementLimit, n8 (headsIn .inService s), n8 (headsIn .reseatPending s),
    n8 (headsIn .reseating s), n8 (headsIn .probation s), n8 (headsIn .retired s), n8 (headsIn .out s)]
  ++ [n8 s.trail.entries.length] ++ le32 ((s.trail.entries.head?.map (·.dischargePitch)).getD 0)
    ++ [n8 (codeGate s.trail.gateCommand), opt8 codeGate s.inputs.gateSensor,
      bits8 [s.trail.watch.isSome, s.inputs.gateEye, s.trace.admissionHeld], n8 (traceFill s), n8 (cansInFlight s)]
    ++ le32 s.trace.nextNumber
  ++ le32 ((s.lots.current.map (·.lot)).getD 0) ++ [slotByte (activeSlot s)]
    ++ le16 (((activeSlot s).map fun a => generationOf a s).getD 0) ++ [n8 (codeChangeover s.lots.changeover)]
    ++ le32 ((s.lots.closing.map (·.lot)).getD 0)
  ++ (List.finRange 8).flatMap (fun i => n8 (codeSlotState s.recipes.slots[i]) :: le16 s.recipes.slots[i].generation)
  ++ reservationBytes s.recipes.lineReservation ++ reservationBytes s.recipes.serviceReservation

/-! ### GET_HEAD (Table 10.6, R43, R85, R104) -/

/-- The head health unit's part, bytes 0 to 28. -/
def headPart (p : PocketNo) (s : State) : List Byte :=
  let h := s.heads[p]
  [n8 p, n8 (codeHeadState h.state), n8 h.consecutive, n8 h.remainder] ++ i16 h.zeroOffset
    ++ n16 h.tallies.seat ++ n16 h.tallies.dose ++ n16 h.tallies.crimp ++ n16 h.tallies.jaw ++ n16 h.tallies.cal
    ++ n16 h.tallies.stuck ++ canBytes h.lastCan
    ++ [opt8 codeRetire h.cause, flag8 h.overflow, n8 (tablePosition p s)]

/-- The can record of a pocket, when its content is CAN. -/
def recordOf (k : Pocket) : Option CanRecord :=
  match k.content with
  | .can r => some r
  | _ => none

/-- A reason set in three bytes, bit c − 1 for code c. -/
def reasonBytes (rs : Reasons) : List Byte := [rs.extractLsb' 0 8, rs.extractLsb' 8 8, rs.extractLsb' 16 8]

/-- The pocket table's part, bytes 29 to 48 (R43). -/
def pocketPart (p : PocketNo) (s : State) : List Byte :=
  let k := s.pockets[p]
  let r := recordOf k
  let dose := r.bind (·.dose)
  [n8 (codeContent k.content), n8 (codeStep k.step), bits8 [k.halted, dose.isSome], slotByte (k.binding.map (·.slot))]
    ++ le16 ((k.binding.map (·.generation)).getD 0) ++ le32 ((k.binding.map (·.lot)).getD 0)
    ++ n32 ((r.map (·.serial)).getD 0) ++ [((r.bind (·.channel)).map fun c => n8 c.val).getD 0xFF]
    ++ i16 (dose.getD 0) ++ reasonBytes ((r.map (·.reasons)).getD 0)

/-- The crimp unit's part, bytes 49 to 60 (R85). -/
def crimpPart (p : PocketNo) (s : State) : List Byte :=
  let k := s.crimp[p]
  [bits8 [k.bellLowered, k.jawClosed, s.inputs.cupPresent[p], s.inputs.bellClosed[p], s.inputs.bellOpen[p],
      s.inputs.jawClosed[p], k.watch.isSome],
    opt8 codeStroke (k.stroke.map (·.kind)), opt8 codeJawMode (k.stroke.map (·.jawMode)),
    opt8 codeJawCondition (k.stroke.map (·.condition))]
    ++ canBytes k.watch

/-- The whole reply. -/
def headBody (p : PocketNo) (s : State) : List Byte := headPart p s ++ pocketPart p s ++ crimpPart p s

/-! ### GET_CHANNEL (Table 10.7, R67) -/

/-- The whole reply. The accumulated mass is shown in every state (log 18). -/
def channelBody (c : ChannelNo) (s : State) : List Byte :=
  let ch := s.gas.channels[c]
  let g := ch.grant
  [n8 c, n8 (codeChannelState ch.state), opt8 codeChannelFault ch.faultCause,
    bits8 [ch.tareDue, ch.offPending, g.isSome, ch.lastClose.isSome], n8 ((g.map (·.pocket.val)).getD 0)]
    ++ le32 ((g.map (·.lot)).getD 0) ++ n32 ((g.map (·.serial)).getD 0) ++ n16 ((g.map (·.target)).getD 0)
    ++ i16 ch.accumulated ++ i16 ((ch.lastClose.map Prod.fst).getD 0) ++ [opt8 codeClose (ch.lastClose.map Prod.snd)]
    ++ i16 ch.preact ++ i16 ch.zeroOffset ++ i16 ch.standing ++ n16 ch.chargesSinceTare
    ++ n32 (ch.timeSinceTare / 1000) ++ [n8 ch.outOfBand]
  ++ [n8 (codeSupply s.gas.supply)] ++ le16 s.inputs.pressure ++ n16 (s.gas.minInForce.getD 0)
    ++ n8 s.gas.tareQueue.length :: s.gas.tareQueue.map (fun i => n8 i.val)
    ++ n8 s.gas.waiting.length :: s.gas.waiting.map (fun i => n8 i.val)

/-! ### Lots and changeover (Tables 10.3, 10.5) -/

/-- A lot record in GET_LOT, or 34 zero bytes when absent. -/
def lotBytes (o : Option LotRecord) : List Byte :=
  match o with
  | some r =>
    [1] ++ le32 r.lot ++ [n8 r.slot] ++ le16 r.generation ++ n32 r.admitted ++ n32 r.accepted ++ n32 r.scrapped
      ++ n32 r.held ++ n32 r.missing ++ n32 r.lost ++ [n8 r.inFlight, n8 r.offers]
  | none => List.replicate 34 0

/-- GET_LOT (R144). -/
def lotBody (s : State) : List Byte :=
  lotBytes s.lots.current ++ lotBytes s.lots.closing ++ lotBytes s.lots.lastClosed
    ++ [n8 (codeChangeover s.lots.changeover)]

/-- The plan of a changeover that is ARMED or SWITCHING (Table 7.5). -/
def planOf : Changeover → Option ChangePlan
  | .none => none
  | .armed plan _ _ => some plan
  | .switching plan => some plan

/-- Remaining, 0 when absent. -/
def remainingOf : Changeover → Nat
  | .armed _ remaining _ => remaining
  | _ => 0

/-- The number of pockets in the counted offers set. -/
def countedOf : Changeover → Nat
  | .armed _ _ counted => counted.toList.countP id
  | _ => 0

/-- The n of a boundary AFTER n; 0 with NEXT. -/
def boundaryCount : Boundary → Nat
  | .next => 0
  | .after n => n

/-- The failure cause of a last outcome. -/
def outcomeCause : ChangeOutcome → Option FailCause
  | .committed => none
  | .failed c => some c

/-- Last outcome and failure cause, 00h when absent. -/
def outcomeBytes (s : State) : List Byte :=
  [opt8 codeOutcome s.lots.lastOutcome, opt8 codeFail (s.lots.lastOutcome.bind outcomeCause)]

/-- CHANGEOVER (R145). -/
def changeoverBody (s : State) : List Byte :=
  let plan := planOf s.lots.changeover
  [n8 (codeChangeover s.lots.changeover), slotByte (plan.map (·.target))] ++ le16 ((plan.map (·.expected)).getD 0)
    ++ n16 (remainingOf s.lots.changeover)

/-- GET_CHANGEOVER (R151). -/
def getChangeoverBody (s : State) : List Byte :=
  let plan := planOf s.lots.changeover
  let closing := if isSwitching s then s.lots.closing else none
  [n8 (codeChangeover s.lots.changeover), slotByte (plan.map (·.target))] ++ le16 ((plan.map (·.expected)).getD 0)
    ++ le32 ((plan.map (·.newLot)).getD 0) ++ [opt8 codeBoundary (plan.map (·.boundary))]
    ++ n16 ((plan.map fun p => boundaryCount p.boundary).getD 0) ++ n16 (remainingOf s.lots.changeover)
    ++ [n8 (countedOf s.lots.changeover)] ++ le32 ((closing.map (·.lot)).getD 0)
    ++ [n8 ((closing.map (·.inFlight)).getD 0), n8 ((closing.map (·.offers)).getD 0)]
    ++ le32 ((s.lots.current.map (·.lot)).getD 0) ++ [slotByte (activeSlot s)] ++ outcomeBytes s

/-! ### The other replies (Table 10.3) -/

/-- PING (R182, Table 10.3). The dropped count is in it, as R182 lists and Table 10.3 lays out, where R178 says that the count is
not sent in any reply (log 37, DEDUCED). -/
def pingBody (port : Port) (s : State) : List Byte :=
  [n8 (codePort port), n8 (portOf port s).queue.length, n8 s.link.reports.length] ++ n16 s.link.dropped
    ++ [maskByte s.link]

/-- GET_HALT_RECORD (R161). -/
def haltBody (s : State) : List Byte :=
  match s.line.haltRecord with
  | some r =>
    [1, n8 (codeHalt r.first), n8 (codeLineState r.lineLeft), n8 (codeSync r.sync)] ++ n16 r.position
      ++ le32 r.pitchCounter
      ++ [flag8 r.lastRequest.isSome, (r.lastRequest.map (·.kind)).getD 0, (r.lastRequest.map (·.tag)).getD 0]
      ++ le16 r.later
  | none => List.replicate 15 0

/-- READ_RECIPE (R135). -/
def readRecipeBody (port : Port) (slot : SlotNo) (s : State) : List Byte :=
  let r := s.recipes.slots[slot]
  let reserved : Bool := ((reservationOf port s).map (·.slot)) = some slot
  [n8 slot, n8 (codeSlotState r)] ++ le16 r.generation ++ [bits8 [slotInUse slot s, reserved]]
    ++ optField (fun c => recipeBytes (recipeWireOf c)) r.content

/-- READ_RETIREMENTS (R105). -/
def retirementsBody (s : State) : List Byte :=
  let outs := (List.finRange 24).filter fun p => s.heads[p].state = .out
  [n8 s.config.retirementLimit, n8 s.retirements.length]
    ++ s.retirements.flatMap (fun r => [n8 r.pocket, n8 (codeRetire r.cause)] ++ canBytes r.lastCan)
    ++ [n8 outs.length]
    ++ outs.flatMap (fun (p : PocketNo) => [n8 p, flag8 s.heads[p].overflow, opt8 codeRetire s.heads[p].cause])

/-- SET_HEAD_OUT and RESTORE_HEAD (R100, R101). -/
def headMovedBody (p : PocketNo) (s : State) : List Byte :=
  [n8 p, n8 (codeHeadState s.heads[p].state), n8 s.retirements.length]

/-- R124: the oldest records that a TAKE_TRACE reply holds: at most n, and none that would take the body beyond 240
bytes. -/
def takenRecords (n room : Nat) : List TraceRecord → List TraceRecord
  | [] => []
  | r :: rest =>
    match n with
    | 0 => []
    | n + 1 => if (traceBytes r).length ≤ room then r :: takenRecords n (room - (traceBytes r).length) rest else []

/-- TAKE_TRACE (R124). -/
def takeTraceBody (taken : List TraceRecord) : List Byte := n8 taken.length :: taken.flatMap traceBytes

end Sys2Proof.Machine
end

