-- ==== Sys2Proof/Machine/Turret.lean ====
section
/-! DEFINITION. The position counter: encoder steps, the index, synchronisation, position faults, loss of position, pitch
boundaries, overspeed, stall, drive ready and standstill (R1 to R16). -/

namespace Sys2Proof.Machine

/-! ### Loss of position (R6) -/

/-- R6: one pocket. A CAN is given up; any other pocket keeps its content. Every pocket loses its binding (log 16). An EMPTY
pocket, a CAL_PASS pocket among them, keeps its content, as R6 and Table 2.6 state; R95 speaks of it as UNKNOWN (log 34). -/
def losePocket (p : PocketNo) (s : State) : State :=
  let k := s.pockets[p]
  match k.content with
  | .can r => countLost r.lot (setPocket p (clearedPocket .unknown) s)
  | other =>
    let s := setPocket p (clearedPocket other) s
    match k.step, k.binding with
    | .offered, some b => countNoCan b.lot (leaveCounted p false s)
    | .calPass, _ => interruptHead p s
    | _, _ => s

/-- R6: every jaw open, every bell lifted, no stroke and no bell-open watch in progress. -/
def loseCrimp (s : State) : State := { s with crimp := Vector.replicate 24 CrimpHead.initial }

/-- R6, R11, R111: the position leaves SYNCED. The pockets go by rising number, and with them what they count and report:
the spec gives no order among them (logs 27 and 33). -/
def losePosition (s : State) : State :=
  let s := { s with position := { s.position with pitchTime := none, lastBoundary := none } }
  let s := forHeads losePocket s
  loseTrail { loseCrimp s with gas := { s.gas with waiting := [] } }

/-- R5: a position fault. The report carries the step count as it stood at the fault (log 9). -/
def positionFault (cause : HaltCause) (s : State) : State :=
  let count := s.position.stepCount
  let s := { s with position := { s.position with sync := .faulted, stepCount := 0 } }
  losePosition (takeHaltCause cause (sendReport (.positionFault cause s.position.position count) s))

/-! ### Index and step count (R3, R4) -/

/-- R4: the position reaches SYNCED; a line in STARTING enters RUN (R155). -/
def reachSynced (s : State) : State :=
  let s := { s with
    position := { s.position with
      sync := .synced, position := 0, backlash := 0, stepCount := 0, pitchTime := none, lastBoundary := none,
      overspeedRun := 0, overspeedOpen := false },
    trail := { s.trail with eyeLatch := false } }
  if s.line.state = .starting then enterRun .synced s else s

/-- R3: whether an index pulse is taken. -/
def indexTaken (pc : PositionCounter) : Bool :=
  pc.backlash = 0 && !((pc.sync = .provisional || pc.sync = .synced) && pc.stepCount = 0)

/-- The step count since index is set. -/
def setStepCount (n : Nat) (s : State) : State := { s with position := { s.position with stepCount := n } }

/-- The sync state returns to UNSYNCED from PROVISIONAL, with step count 0 (R2, R4). -/
def dropProvisional (s : State) : State := { s with position := { s.position with sync := .unsynced, stepCount := 0 } }

/-- R4, Table 1.2: an index pulse. -/
def takeIndex (s : State) : State :=
  if indexTaken s.position then
    match s.position.sync with
    | .unsynced => { s with position := { s.position with sync := .provisional, stepCount := 0 } }
    | .provisional => if s.position.stepCount = 2880 then reachSynced s else setStepCount 0 s
    | .synced => if s.position.stepCount = 2880 then setStepCount 0 s else positionFault .indexMismatch s
    | .faulted => s
  else s

/-- R4, Table 1.2: the step count since index has reached 2888 with no index taken (log 7). -/
def takeStepLimit (s : State) : State :=
  if 2888 ≤ s.position.stepCount then
    match s.position.sync with
    | .provisional => dropProvisional s
    | .synced => positionFault .missingIndex s
    | .unsynced | .faulted => s
  else s

/-! ### Standstill and stall (R14, R16) -/

/-- R16: a step of either direction clears the standstill indicator and restarts its timer. -/
def noteMotion (s : State) : State :=
  { s with position := { s.position with standstill := false, standstillTimer := some 500 } }

/-- R14: a running timer restarts from a duration; a stopped one stays stopped. -/
def restartTimer (duration : Nat) (t : Timer) : Timer := t.map fun _ => duration

/-! ### Pitch boundaries (R10, R11, R13) -/

/-- R11: the pitch time measured at a pitch-boundary crossing. -/
def measuredPitch (s : State) : Option Nat :=
  s.position.lastBoundary.map fun t => clampPitchTime (s.timebase - t)

/-- R13: an overspeed pitch. -/
def overspeedPitch (pitchTime : Nat) (s : State) : State :=
  let run := s.position.overspeedRun
  let wasOpen := s.position.overspeedOpen
  let s := { s with position := { s.position with overspeedRun := saturatingSucc 8 run, overspeedOpen := true } }
  let s := if wasOpen then s else sendReport (.overspeedStart pitchTime s.position.speedCeiling) s
  if run = 7 then takeHaltCause .overspeedSustained s else s

/-- R13: a normal pitch. -/
def normalPitch (pitchTime : Nat) (s : State) : State :=
  let wasOpen := s.position.overspeedOpen
  let s := { s with position := { s.position with overspeedRun := 0, overspeedOpen := false } }
  if wasOpen then sendReport (.overspeedEnd (some pitchTime)) s else s

/-- R13: in RUN and DRAIN a pitch time is judged against the ceiling in force before the step. -/
def judgePitch (s : State) : State :=
  match s.position.pitchTime with
  | some t =>
    if runOrDrain s.line.state then
      if isOverspeed t s.position.speedCeiling then overspeedPitch t s else normalPitch t s
    else s
  | none => s

/-- R10, R11, R13: a pitch-boundary crossing, up to its hand-off to the trail. -/
def countPitch (s : State) : State :=
  judgePitch { s with position := { s.position with
    pitchCounter := s.position.pitchCounter + 1, pitchTime := measuredPitch s, lastBoundary := some s.timebase } }

/-! ### The advancing step (R1, R3, R8, R10) -/

/-- The order in which a step's crossings are handed on: 0 to 23 the pockets, 24 the trail; those that the operand does not
name follow in rising order (log 6). -/
def handOffOrder (order : List Nat) : List Nat := ((order.filter (· ≤ 24)) ++ List.range 25).eraseDups

/-- One hand-off of an advancing step in SYNCED: a pocket's crossing, or the pitch-boundary crossing at the trail. DRAIN
completes when it leaves pockets and trail empty (R158).The reports of the crossing, those of a commit among them,
are sent before the LINE_STATE of that completion: the model's choice (log 40). -/
def handOff (s : State) (i : Nat) : State :=
  if h : i < 24 then checkDrain (pocketCrossing ⟨i, h⟩ (phaseAt s.position.position ⟨i, h⟩) s)
  else if s.position.position % 120 = 0 then checkDrain (trailCrossing s)
  else s

/-- R8, R10: the crossings of an advancing step in SYNCED. -/
def crossings (order : List Nat) (s : State) : State :=
  let s := if s.position.position % 120 = 0 then countPitch s else s
  (handOffOrder order).foldl handOff s

/-- R3: the step count after an advancing step. -/
def countedSteps (pc : PositionCounter) : Nat :=
  match pc.sync with
  | .provisional | .synced => min 2888 (pc.stepCount + 1)
  | .unsynced | .faulted => 0

/-- R1: an advancing step, at backlash depth 0. -/
def advance (order : List Nat) (s : State) : State :=
  let s := takeStepLimit s
  let s := { s with position := { s.position with
    position := (s.position.position + 1) % 2880, stepCount := countedSteps s.position,
    stallTimer := restartTimer s.config.stallTime s.position.stallTimer } }
  if s.position.sync = .synced then crossings order s else s

/-- R1: a recovery step, at a backlash depth from 1 to 4. -/
def recover (s : State) : State :=
  { s with position := { s.position with
    position := (s.position.position + 1) % 2880, backlash := s.position.backlash - 1 } }

/-- R1: a forward encoder step. -/
def forwardStep (order : List Nat) (s : State) : State :=
  let s := noteMotion s
  if s.position.backlash = 0 then advance order s else recover s

/-- R2: a REVERSAL, after the position has fallen and the high-water has come down to it. -/
def reversal (s : State) : State :=
  match s.position.sync with
  | .provisional => dropProvisional s
  | .synced => positionFault .reversal s
  | .unsynced | .faulted => s

/-- R1, R2: a reverse encoder step. -/
def reverseStep (s : State) : State :=
  let s := noteMotion s
  let pos := (s.position.position + 2879) % 2880
  if s.position.backlash < 4 then
    { s with position := { s.position with position := pos, backlash := s.position.backlash + 1 } }
  else reversal { s with position := { s.position with position := pos, backlash := 0 } }

/-! ### Drive and standstill events (R14 to R16) -/

/-- R14, R15: the drive-ready input changes. -/
def changeDriveReady (ready : Bool) (s : State) : State :=
  if ready = s.inputs.driveReady then s
  else
    let s := { s with inputs := { s.inputs with driveReady := ready } }
    if s.line.runPermit then
      if ready then { s with position := { s.position with stallTimer := some s.config.stallTime } }
      else takeHaltCause .driveFault { s with position := { s.position with stallTimer := none } }
    else s

/-- R14: the stall timer runs out. -/
def stallExpires (s : State) : State :=
  if s.position.stallTimer.isSome then
    takeHaltCause .stall { s with position := { s.position with stallTimer := none } }
  else s

/-- R16, R160: the standstill timer runs out. -/
def standstillExpires (s : State) : State :=
  if s.position.standstillTimer.isSome then
    checkStandstill { s with position := { s.position with standstillTimer := none, standstill := true } }
  else s

/-! ### RESYNC (R7) -/

/-- R7: RESYNC accepted in STOPPED. -/
def resyncPosition (s : State) : State :=
  let wasSynced := s.position.sync = .synced
  let s := { s with position := { s.position with
    sync := .unsynced, stepCount := 0, pitchTime := none, lastBoundary := none } }
  if wasSynced then losePosition s else s

end Sys2Proof.Machine
end

