-- ==== Sys2Proof/Machine/Requests.lean ====
section
/-! DEFINITION. What the owner of each request does with it: its checks in their order, its effect, and its answer. A
refusal leaves the state as it was (R177). -/

namespace Sys2Proof.Machine

/-- The state after a request was handed to its owner, and the answer. -/
abbrev Handled := State × Answer

/-- A refusal that names a field, or none (field 0). -/
def refuse (reason : RefusalReason) (field : Nat) (s : State) : Handled := (s, .refused reason field)

/-- An accepted request, its reply built from the state after it. -/
def accept (body : State → List Byte) (s : State) : Handled := (s, .accepted (body s))

/-! ### Link controller (R182, R183) -/

def ownPing (port : Port) (s : State) : Handled := accept (pingBody port) s

/-- R183: bit n enables level n for 0 to 2. Bit 3 is reserved and ignored. Table 10.2 names no bit above it: bits 4 to 7 are
read as reserved too, and ignored (R176; log 43, DEDUCED). -/
def ownSetReportMask (mask : Byte) (s : State) : Handled :=
  accept (fun s => [maskByte s.link])
    { s with link := { s.link with
      maskTrace := mask.getLsbD 0, maskLot := mask.getLsbD 1, maskFault := mask.getLsbD 2 } }

/-! ### Line control (R154, R156, R161, R163, R165, R167 to R169) -/

def ownGetStatus (s : State) : Handled := accept statusBody s

/-- R143, steps 2 to 5: the refusal the lot register gives, if any. -/
def lotRefusal (lot : LotId) (slot : SlotNo) (s : State) : Option (RefusalReason × Nat) :=
  if (recipeIn slot s).isNone then some (.slotEmpty, 0)
  else if isCurrent lot s then
    if activeSlot s = some slot then none else some (.badValue, 2)
  else if s.lots.current.any (fun l => l.inFlight ≠ 0 || l.offers ≠ 0) || s.lots.changeover ≠ .none then
    some (.lotOpen, 0)
  else if s.lots.lastClosed.any (·.lot = lot) then some (.badValue, 1)
  else none

/-- R154: START_LINE with every check passed. -/
def startLine (lot : LotId) (slot : SlotNo) (s : State) : State :=
  let s := if isCurrent lot s then s else openNewLot lot slot s
  let s := { s with line := { s.line with haltRecord := none } }
  if s.position.sync = .synced then startRun s else startStarting s

/-- R154, R143: the checks of START_LINE in their order; with both fields wrong the lot id is named (log 14). -/
def ownStartLine (lot : Word32) (slotByteIn : Byte) (s : State) : Handled :=
  if lot = 0 then refuse .badValue 1 s
  else
    match slotOf slotByteIn with
    | none => refuse .badValue 2 s
    | some slot =>
      if s.line.state ≠ .stopped then refuse .wrongState 0 s
      else if s.line.latch.isSome then refuse .interlock 0 s
      else if overLimit s then refuse .retirementLimit 0 s
      else if channelsInService s = 0 then refuse .noChannel 0 s
      else
        match lotRefusal lot slot s with
        | some (reason, field) => refuse reason field s
        | none =>
          accept (fun s => n8 (codeLineState s.line.state) :: (le32 ((s.lots.current.map (·.lot)).getD 0)
            ++ [slotByte (activeSlot s)])) (startLine lot slot s)

/-- R156: STOP_LINE CONTROLLED on the line port. -/
def stopControlled (s : State) : State :=
  match s.line.state with
  | .starting => changeLine .stopped none .stopControlled id s
  | .run => takeDrainCause .hostStop s
  | .drain | .halt | .stopped => s

/-- R156: STOP_LINE IMMEDIATE; in HALT it adds nothing to the halt record. -/
def stopImmediate (port : Port) (s : State) : State :=
  match s.line.state with
  | .halt | .stopped => s
  | _ => takeHaltCause (match port with | .line => .hostStop | .service => .serviceStop) s

def ownStopLine (port : Port) (mode : Byte) (s : State) : Handled :=
  match stopModeOf mode, port with
  | none, _ => refuse .badValue 1 s
  | some .controlled, .service => refuse .notOnThisPort 0 s
  | some .controlled, .line => accept (fun s => [n8 (codeLineState s.line.state)]) (stopControlled s)
  | some .immediate, port => accept (fun s => [n8 (codeLineState s.line.state)]) (stopImmediate port s)

/-- R163. -/
def ownClearInterlock (s : State) : Handled :=
  if s.inputs.guardDoor || s.inputs.leak then refuse .inputActive 0 s
  else
    accept (fun s => [opt8 codeLatch s.line.latch, bits8 [s.inputs.guardDoor, s.inputs.leak]])
      { s with line := { s.line with latch := none } }

/-- R165: the safe flag is cleared, which may lower the ceiling (R12). -/
def ownClearSafe (s : State) : Handled :=
  accept (fun s => [flag8 s.line.safe, n8 s.line.stage])
    (refreshCeiling { s with line := { s.line with safe := false } })

/-- R164: a sign of life, or a new Q at an accepted SET_CONFIG. -/
def restartSupervision (s : State) : State :=
  { s with line := { s.line with
    stage := 0, quietTimer := if s.config.quietTime = 0 then none else some s.config.quietTime } }

/-- R167: the value that a new configuration is refused for: its ranges, then L against the retirement count (R106), then
D and W against the trail (R129). -/
def configRefusal (c : MachineConfig) (s : State) : Option Nat :=
  match configBadField c with
  | some field => some field
  | none =>
    if c.retirementLimit < s.retirements.length then some 3
    else if s.trail.entries ≠ [] ∧ c.gateDistance ≠ s.config.gateDistance then some 1
    else if s.trail.entries ≠ [] ∧ c.weigherDistance ≠ s.config.weigherDistance then some 2
    else none

/-- R167: an accepted configuration and the changes made at acceptance (R61, R12, R164). Several IDLE channels that now meet
an interval join the tare queue by rising channel number: the spec gives no order among them, and this one is the model's
choice (log 32). -/
def applyConfig (c : MachineConfig) (s : State) : State :=
  restartSupervision (refreshCeiling (forChannels recheckTare { s with config := c }))

def ownSetConfig (values : ConfigWire) (s : State) : Handled :=
  if s.line.state ≠ .stopped then refuse .wrongState 0 s
  else
    match configRefusal (configOf values) s with
    | some field => refuse .badValue field s
    | none => accept (fun s => configBytes (configWireOf s.config)) (applyConfig (configOf values) s)

def ownGetHaltRecord (s : State) : Handled := accept haltBody s

/-- R184: the service port at RESTART keeps only a request whose reply is already outstanding. -/
def restartServicePort (v : PortState) : PortState :=
  let isReply : Option TxFrame → Bool := fun o => (o.map (·.what)) = some .reply
  let replying := isReply v.outstanding || isReply v.transmitter
  { v with
    receiver := .hunting, gapTimer := none, refusal := none, queue := if replying then v.queue.take 1 else [],
    outstanding := if isReply v.outstanding then v.outstanding else none }

/-- R184: the line port at RESTART keeps RESTART alone in its queue. -/
def restartLinePort (v : PortState) : PortState :=
  { v with receiver := .hunting, gapTimer := none, refusal := none, queue := v.queue.take 1, outstanding := none }

/-- R169, R184: RESTART. Every piece of state takes its power-on value but what its owner keeps: the configuration, the
latch, the safe flag, the recipe slots, the heads (R108) and the retirement table, and the frames being sent. The
plant's inputs are what they are. A supply state LOW that becomes OK (R70) sends no SUPPLY report (R65), and a channel that
leaves FAULT or OFF no CHANNEL_STATE report (R68): the model's choice (log 36). -/
def restartState (s : State) : State :=
  let fresh := State.atPowerOn s.inputs
  { fresh with
    pending := s.pending, timebase := s.timebase, freeIx := s.freeIx, config := s.config,
    line := { fresh.line with latch := s.line.latch, safe := s.line.safe },
    recipes := { fresh.recipes with slots := s.recipes.slots },
    heads := Vector.ofFn fun p => restartedHead s.heads[p],
    retirements := s.retirements,
    trail := Trail.initial s.inputs.gateSensor s.config.gateSettleTime,
    link := { fresh.link with linePort := restartLinePort s.link.linePort,
                              servicePort := restartServicePort s.link.servicePort } }

/-- R108: one HEAD_STATE report for each head that was in PROBATION at RESTART. -/
def reportRestarted (before : State) (p : PocketNo) (s : State) : State :=
  if before.heads[p].state = .probation then reportHead p .probation .restart s else s

/-- R169: RESTART. The HEAD_STATE reports are queued by rising head number: R108 gives no order among heads, and this one is
the model's choice (log 33). -/
def ownRestart (s : State) : Handled :=
  if s.line.state ≠ .stopped then refuse .wrongState 0 s
  else
    (forHeads (reportRestarted s) (restartState s),
      .accepted [n8 (codeLineState .stopped), opt8 codeLatch s.line.latch, flag8 s.line.safe])

/-! ### Position counter (R7) -/

def ownResync (s : State) : Handled :=
  if s.line.state ≠ .stopped then refuse .wrongState 0 s
  else accept (fun s => [n8 (codeSync s.position.sync)]) (resyncPosition s)

/-! ### Recipe store (R132 to R138) -/

/-- R134, R137: every reservation that names the slot is cleared. -/
def dropReservation (slot : SlotNo) (o : Option Reservation) : Option Reservation := o.filter fun r => r.slot ≠ slot

/-- R131, R134: a successful write; a write of the active slot is handed to the position counter and the arbiter. -/
def storeRecipe (slot : SlotNo) (r : Recipe) (s : State) : State :=
  let s := { s with recipes :=
    { slots := s.recipes.slots.set slot { generation := s.recipes.slots[slot].generation + 1, content := some r },
      lineReservation := dropReservation slot s.recipes.lineReservation,
      serviceReservation := dropReservation slot s.recipes.serviceReservation } }
  if activeSlot s = some slot then refreshSlots s else s

/-- The last two checks of a write and its effect (R134, R137). -/
def writeChecked (slot : SlotNo) (w : RecipeWire) (s : State) : Handled :=
  if slotInUse slot s then refuse .slotInUse 0 s
  else
    match recipeBadField w with
    | some field => refuse .badValue field s
    | none => accept (fun s => n8 slot :: le16 (generationOf slot s)) (storeRecipe slot (recipeOf w) s)

/-- R134. -/
def ownWriteRecipe (slotByteIn : Byte) (w : RecipeWire) (s : State) : Handled :=
  match slotOf slotByteIn with
  | none => refuse .badValue 1 s
  | some slot => writeChecked slot w s

/-- R137, step 2. -/
def holdsReservation (port : Port) (slot : SlotNo) (s : State) : Bool :=
  reservationOf port s = some { slot := slot, generation := generationOf slot s }

/-- R137. -/
def ownWriteRecipeReserved (port : Port) (slotByteIn : Byte) (w : RecipeWire) (s : State) : Handled :=
  match slotOf slotByteIn with
  | none => refuse .badValue 1 s
  | some slot => if holdsReservation port slot s then writeChecked slot w s else refuse .lostReservation 0 s

/-- R136: the port's reservation is replaced. -/
def reserve (port : Port) (slot : SlotNo) (s : State) : State :=
  let r : Reservation := { slot := slot, generation := generationOf slot s }
  match port with
  | .line => { s with recipes := { s.recipes with lineReservation := some r } }
  | .service => { s with recipes := { s.recipes with serviceReservation := some r } }

/-- R136. The rule does not say that the refusal names the field: the slot (field 1) is named, the model's choice (log 42). -/
def ownReserveRecipe (port : Port) (slotByteIn : Byte) (s : State) : Handled :=
  match slotOf slotByteIn with
  | none => refuse .badValue 1 s
  | some slot =>
    accept (fun s => [n8 slot, n8 (codeSlotState s.recipes.slots[slot])] ++ le16 (generationOf slot s)
      ++ [flag8 (slotInUse slot s)]) (reserve port slot s)

/-- R135. The rule does not say that the refusal names the field: the slot (field 1) is named, the model's choice (log 42). -/
def ownReadRecipe (port : Port) (slotByteIn : Byte) (s : State) : Handled :=
  match slotOf slotByteIn with
  | none => refuse .badValue 1 s
  | some slot => accept (readRecipeBody port slot) s

/-! ### Lot register (R144, R145, R149, R151) -/

/-- R145: the changeover becomes ARMED. -/
def armChangeover (plan : ChangePlan) (s : State) : State :=
  { s with lots := { s.lots with
    changeover := .armed plan (boundaryCount plan.boundary) (Vector.replicate 24 false) } }

/-- R145, steps 2 to 8: the refusal, if any. -/
def changeoverRefusal (plan : ChangePlan) (s : State) : Option (RefusalReason × Nat) :=
  if s.line.state ≠ .run ∧ s.line.state ≠ .starting then some (.wrongState, 0)
  else if s.lots.changeover ≠ .none then some (.wrongState, 0)
  else if s.line.safe then some (.safeProfile, 0)
  else if (recipeIn plan.target s).isNone then some (.slotEmpty, 0)
  else if generationOf plan.target s ≠ plan.expected then some (.staleGeneration, 0)
  else if activeSlot s = some plan.target then some (.badValue, 1)
  else if isCurrent plan.newLot s || s.lots.lastClosed.any (·.lot = plan.newLot) then some (.badValue, 3)
  else none

/-- R145: the checks of CHANGEOVER in their order; a boundary AFTER 0 names n, field 5 (log 14). -/
def ownChangeover (target : Byte) (expected : Word16) (lot : Word32) (boundary : Byte) (n : Word16) (s : State) :
    Handled :=
  match slotOf target, boundaryOf boundary n with
  | none, _ => refuse .badValue 1 s
  | some slot, b =>
    if lot = 0 then refuse .badValue 3 s
    else
      match b with
      | none => refuse .badValue (if boundary = 2 then 5 else 4) s
      | some b =>
        let plan : ChangePlan := { target := slot, expected := expected, newLot := lot, boundary := b }
        match changeoverRefusal plan s with
        | some (reason, field) => refuse reason field s
        | none => accept changeoverBody (armChangeover plan s)

/-- R149. -/
def ownAbortChangeover (s : State) : Handled :=
  match s.lots.changeover with
  | .armed _ _ _ =>
    accept (fun s => n8 (codeChangeover s.lots.changeover) :: outcomeBytes s) (failChangeover .hostAbort s)
  | .switching _ => refuse .tooLate 0 s
  | .none => refuse .wrongState 0 s

def ownGetChangeover (s : State) : Handled := accept getChangeoverBody s

def ownGetLot (s : State) : Handled := accept lotBody s

/-! ### Head health unit (R100 to R105) -/

def ownGetHead (head : Byte) (s : State) : Handled :=
  match headOf head with
  | none => refuse .badValue 1 s
  | some p => accept (headBody p) s

/-- Table 5.4, Table 3.5: a request that the service port may bring in STOPPED alone. -/
def barredOnService (port : Port) (s : State) : Bool := port = .service && s.line.state ≠ .stopped

/-- R101, R102: field values, then the line state, then the head state. With the head above 23 and a direction that is
neither OUT nor IN, the head is named: the spec does not say which, and this is the model's choice (log 14). -/
def ownSetHeadOut (port : Port) (head direction : Byte) (s : State) : Handled :=
  match headOf head, directionOutOf direction with
  | none, _ => refuse .badValue 1 s
  | some _, none => refuse .badValue 2 s
  | some p, some out =>
    if barredOnService port s then refuse .wrongState 0 s
    else if out then accept (headMovedBody p) (headOut p s)
    else if s.heads[p].state = .out then accept (headMovedBody p) (headIn p s)
    else refuse .wrongState 0 s

/-- R100. -/
def ownRestoreHead (port : Port) (head : Byte) (s : State) : Handled :=
  match headOf head with
  | none => refuse .badValue 1 s
  | some p =>
    if barredOnService port s then refuse .wrongState 0 s
    else if s.heads[p].state = .retired then accept (headMovedBody p) (restoreRetired p s)
    else refuse .wrongState 0 s

def ownReadRetirements (s : State) : Handled := accept retirementsBody s

/-- R103: the six tallies of a head set to 0. -/
def clearHeadTallies (h : Head) : Head :=
  { h with tallies := { seat := 0, dose := 0, crimp := 0, jaw := 0, cal := 0, stuck := 0 } }

/-- R103: FFh names every head. Table 10.3 has no row for this reply: a body of one byte, the head number as received, is the
model's choice (log 39). That a refusal names the head (field 1), which R103 does not say, is the model's choice (log 42). -/
def ownClearTallies (head : Byte) (s : State) : Handled :=
  if head = 0xFF then accept (fun _ => [head]) { s with heads := Vector.ofFn fun p => clearHeadTallies s.heads[p] }
  else
    match headOf head with
    | none => refuse .badValue 1 s
    | some p => accept (fun _ => [head]) (setHead p (clearHeadTallies s.heads[p]) s)

/-! ### Channel unit (R66, R67) -/

/-- R67. The rule does not say that the refusal names the field: the channel (field 1) is named, the model's choice (log 42). -/
def ownGetChannel (channel : Byte) (s : State) : Handled :=
  match channelOf channel with
  | none => refuse .badValue 1 s
  | some c => accept (channelBody c) s

/-- R66: the service port outside STOPPED is refused first (log 14). -/
def ownSetChannel (port : Port) (channel action : Byte) (s : State) : Handled :=
  if barredOnService port s then refuse .wrongState 0 s
  else
    match channelOf channel, actionOnOf action with
    | none, _ => refuse .badValue 1 s
    | some _, none => refuse .badValue 2 s
    | some c, some on =>
      accept (fun s => [n8 c, n8 (codeChannelState s.gas.channels[c].state), flag8 s.gas.channels[c].offPending])
        (if on then switchOn c s else switchOff c s)

/-! ### Trace buffer (R124) -/

/-- R124: the records placed in the reply are deleted. -/
def ownTakeTrace (count : Byte) (s : State) : Handled :=
  if count.toNat = 0 ∨ 8 < count.toNat then refuse .badValue 1 s
  else
    let taken := takenRecords count.toNat 239 s.trace.records
    accept (fun _ => takeTraceBody taken)
      { s with trace := { s.trace with records := s.trace.records.drop taken.length } }

end Sys2Proof.Machine
end

