-- ==== Sys2Proof/Machine/Link.lean ====
section
/-! DEFINITION. The link controller: receivers, request queues and refusal slots, the taking of requests, transmitters
(R164, R171 to R179), and the end of every command. -/

namespace Sys2Proof.Machine

/-! ### Link checks (R176) -/

/-- Table 10.2: the body length of a request kind; none for a KIND that is no request kind. -/
def bodyLength (kind : Byte) : Option Nat :=
  match kind.toNat with
  | 0x01 | 0x02 => some 0
  | 0x03 => some 5
  | 0x04 => some 1
  | 0x05 | 0x06 | 0x07 => some 0
  | 0x08 => some 21
  | 0x09 | 0x0A => some 0
  | 0x0B => some 66
  | 0x0C => some 1
  | 0x0D => some 66
  | 0x0E => some 1
  | 0x0F => some 10
  | 0x10 | 0x11 | 0x12 => some 0
  | 0x13 => some 1
  | 0x14 => some 2
  | 0x15 => some 1
  | 0x16 => some 0
  | 0x17 | 0x18 => some 1
  | 0x19 => some 2
  | 0x1A | 0x1B => some 1
  | _ => none

/-- Table 9.3: the kinds that the service port does not carry. -/
def lineOnly (kind : Byte) : Bool :=
  [kindStartLine, kindResync, kindClearInterlock, kindClearSafe, kindSetConfig, kindRestart, kindWriteRecipe,
    kindChangeover, kindAbortChangeover, kindClearTallies, kindTakeTrace, kindSetReportMask].contains kind

/-- R176, Table 9.4: a request that passed the link checks is handed to its owner with its body fields. -/
def handToOwner (port : Port) (f : Frame) (s : State) : Handled :=
  let b := f.body
  match f.kind.toNat with
  | 0x01 => ownPing port s
  | 0x02 => ownGetStatus s
  | 0x03 => ownStartLine (dwordAt b 0) (byteAt b 4) s
  | 0x04 => ownStopLine port (byteAt b 0) s
  | 0x05 => ownResync s
  | 0x06 => ownClearInterlock s
  | 0x07 => ownClearSafe s
  | 0x08 => ownSetConfig (configAt b) s
  | 0x09 => ownGetHaltRecord s
  | 0x0A => ownRestart s
  | 0x0B => ownWriteRecipe (byteAt b 0) (recipeAt b 1) s
  | 0x0C => ownReserveRecipe port (byteAt b 0) s
  | 0x0D => ownWriteRecipeReserved port (byteAt b 0) (recipeAt b 1) s
  | 0x0E => ownReadRecipe port (byteAt b 0) s
  | 0x0F => ownChangeover (byteAt b 0) (wordAt b 1) (dwordAt b 3) (byteAt b 7) (wordAt b 8) s
  | 0x10 => ownAbortChangeover s
  | 0x11 => ownGetChangeover s
  | 0x12 => ownGetLot s
  | 0x13 => ownGetHead (byteAt b 0) s
  | 0x14 => ownSetHeadOut port (byteAt b 0) (byteAt b 1) s
  | 0x15 => ownRestoreHead port (byteAt b 0) s
  | 0x16 => ownReadRetirements s
  | 0x17 => ownClearTallies (byteAt b 0) s
  | 0x18 => ownGetChannel (byteAt b 0) s
  | 0x19 => ownSetChannel port (byteAt b 0) (byteAt b 1) s
  | 0x1A => ownTakeTrace (byteAt b 0) s
  | 0x1B => ownSetReportMask (byteAt b 0) s
  | _ => refuse .unknownKind 0 s

/-- R176: the link checks in their order. -/
def answerRequest (port : Port) (f : Frame) (s : State) : Handled :=
  match bodyLength f.kind with
  | none => refuse .unknownKind 0 s
  | some n =>
    if f.body.length ≠ n then refuse .badLength 0 s
    else if port = .service ∧ lineOnly f.kind then refuse .notOnThisPort 0 s
    else handToOwner port f s

/-! ### Taking a request (R175) -/

/-- R161, R175: a request taken from the line port's queue is the last line-port request of the halt record. -/
def noteRequest (port : Port) (f : Frame) (s : State) : State :=
  match port with
  | .line => { s with line := { s.line with lastRequest := some { kind := f.kind, tag := f.tag } } }
  | .service => s

/-- A port's record changed by a function. -/
def modifyPort (port : Port) (f : PortState → PortState) (s : State) : State := setPort port (f (portOf port s)) s

/-- R175: a request is taken: checked, handed to its owner, and its reply is outstanding. -/
def takeRequest (port : Port) (f : Frame) (s : State) : State :=
  let (s, answer) := answerRequest port f (noteRequest port f s)
  modifyPort port (fun v => { v with outstanding := some { what := .reply, frame := answerFrame f answer } }) s

/-- R175: the request at the head of a port's queue is taken. -/
def takeHead (port : Port) (s : State) : State :=
  match (portOf port s).queue with
  | f :: _ => takeRequest port f s
  | [] => s

/-! ### Arrival of a whole frame (R164, R174) -/

/-- R174: the BUSY refusal of a frame. -/
def busyFrame (f : Frame) : Frame := answerFrame f (.refused .busy 0)

/-- R174: a whole frame is placed in the queue, gets a BUSY refusal, or is discarded; it is taken at once where queue and
refusal slot were both empty (R175). -/
def placeFrame (port : Port) (f : Frame) (s : State) : State :=
  let v := portOf port s
  if v.queue.length < 4 then
    let s := setPort port { v with queue := v.queue ++ [f] } s
    if v.queue = [] ∧ v.refusal = none then takeHead port s else s
  else if v.refusal = none then setPort port { v with refusal := some { frame := busyFrame f, ahead := v.queue.length } } s
  else s

/-- R174: a whole frame arrives; on the line port it is a sign of life first (R164). -/
def frameArrives (port : Port) (f : Frame) (s : State) : State :=
  placeFrame port f (match port with
    | .line => restartSupervision s
    | .service => s)

/-- R179: bytes that reach the service port while it is sending are not received. -/
def deaf (port : Port) (s : State) : Bool := port = .service && (portOf port s).transmitter.isSome

/-- The receiver returns to HUNTING, its gap timer stopped. -/
def hunt (port : Port) (s : State) : State :=
  modifyPort port (fun v => { v with receiver := .hunting, gapTimer := none }) s

/-- A whole frame with a correct check on a port, received at once; a body beyond 240 bytes is no frame (R171, log 25). -/
def receiveFrame (port : Port) (f : Frame) (s : State) : State :=
  if deaf port s then s
  else if f.body.length ≤ 240 then frameArrives port f (hunt port s)
  else hunt port s

/-! ### Receiving bytes (R171 to R173) -/

/-- The frame in a whole byte sequence, start byte to check; none when LEN or check do not agree. -/
def parseFrame (bytes : List Byte) : Option Frame :=
  let len := (byteAt bytes 1).toNat
  let f : Frame := { kind := byteAt bytes 2, tag := byteAt bytes 3, body := (bytes.drop 4).take (len - 2) }
  if frameBytes f = bytes then some f else none

/-- A byte taken in IN_FRAME, where `bytes` are those before it (R171). -/
def extendFrame (port : Port) (bytes : List Byte) (b : Byte) (s : State) : State :=
  let bytes := bytes ++ [b]
  let len := (byteAt bytes 1).toNat
  if len < 2 ∨ 242 < len then hunt port s
  else if bytes.length = len + 4 then
    match parseFrame bytes with
    | some f => frameArrives port f (hunt port s)
    | none => hunt port s
  else modifyPort port (fun v => { v with receiver := .inFrame bytes, gapTimer := some (gapTime port) }) s

/-- R171, R172: a byte reaches a port. -/
def receiveByte (port : Port) (b : Byte) (s : State) : State :=
  if deaf port s then s
  else
    match (portOf port s).receiver with
    | .hunting =>
      if b = 0xC3 then
        modifyPort port (fun v => { v with receiver := .inFrame [b], gapTimer := some (gapTime port) }) s
      else s
    | .inFrame bytes => extendFrame port bytes b s

/-- R172: the gap timer runs out, and the frame is abandoned. -/
def gapExpires (port : Port) (s : State) : State := if (portOf port s).gapTimer.isSome then hunt port s else s

/-! ### Transmitters (R175, R178, R179) -/

/-- R175: what follows when a reply or BUSY refusal has been sent in full: the BUSY refusal whose turn has come, or the
next request. -/
def nextInPort (port : Port) (s : State) : State :=
  match (portOf port s).refusal with
  | some r =>
    if r.ahead = 0 then
      modifyPort port (fun v => { v with outstanding := some { what := .busy, frame := r.frame } }) s
    else takeHead port s
  | none => takeHead port s

/-- The end of a reply: its request gives up its place (R175). -/
def replySent (v : PortState) : PortState :=
  { v with transmitter := none, queue := v.queue.tail, refusal := v.refusal.map fun r => { r with ahead := r.ahead - 1 } }

/-- The end of a BUSY refusal: the slot is empty (R175). -/
def busySent (v : PortState) : PortState := { v with transmitter := none, refusal := none }

/-- R178: a port's transmitter finishes its frame. What it sends next is chosen at the end of the event (log 8). -/
def endTransmission (port : Port) (s : State) : State :=
  match (portOf port s).transmitter with
  | none => s
  | some t =>
    match t.what with
    | .reply => nextInPort port (modifyPort port replySent s)
    | .busy => nextInPort port (modifyPort port busySent s)
    | .report => modifyPort port (fun v => { v with transmitter := none }) s

/-- R178: an idle line transmitter begins the outstanding reply or BUSY refusal, otherwise the report at the head of the
queue, which carries the dropped count. -/
def kickLine (s : State) : State :=
  let v := s.link.linePort
  match v.transmitter, v.outstanding, s.link.reports with
  | none, some t, _ => setPort .line { v with transmitter := some t, outstanding := none } s
  | none, none, r :: rest =>
    { s with link := { s.link with
      linePort := { v with transmitter := some { what := .report, frame := reportFrame r s.link.dropped } },
      reports := rest, dropped := 0 } }
  | _, _, _ => s

/-- R179: an idle service transmitter begins the outstanding reply or BUSY refusal while the receiver is HUNTING. -/
def kickService (s : State) : State :=
  let v := s.link.servicePort
  match v.transmitter, v.outstanding, v.receiver with
  | none, some t, .hunting => setPort .service { v with transmitter := some t, outstanding := none } s
  | _, _, _ => s

/-- The end of every command, and of every moment of elapsed time: the stack lamp (R166) and the transmitters (log 8). -/
def finish (s : State) : State := kickService (kickLine (refreshLamp s))

/-- A command that ends in a next state. -/
def completes (s : State) : Outcome := .next (finish s)

end Sys2Proof.Machine
end

