-- ==== Sys2Proof/Machine/Time.lean ====
section
/-! DEFINITION. The passing of time at the channel unit: the clocks, the moments at which they act, and the end of each
moment (R61, R64, R178). -/

namespace Sys2Proof.Machine

/-- R61: whether time since tare advances in a channel state. -/
def tareClockRuns (state : ChannelState) : Bool := state = .idle || state = .charging || state = .settling

/-- R61: the time until a channel's tare falls due by time; none while it is due, or while the clock holds. -/
def tareWait (s : State) (ch : Channel) : Option Nat :=
  if tareClockRuns ch.state && !ch.tareDue then some (s.config.tareIntervalTime * 1000000 - ch.timeSinceTare) else none

/-- R64: the time until the oldest increment of an IDLE channel lies more than 1000 ms back (log 21). -/
def creepWait (s : State) (ch : Channel) : Option Nat :=
  match ch.state, ch.creepWindow with
  | .idle, (t, _) :: _ => some (t + 1000001 - s.timebase)
  | _, _ => none

/-- The earlier of two waits. -/
def earlier : Option Nat → Option Nat → Option Nat
  | some a, some b => some (min a b)
  | some a, none => some a
  | none, b => b

/-- The time until the next moment at which the passing of time acts on a channel. -/
def nextMoment (s : State) : Option Nat :=
  s.gas.channels.toList.foldl (fun d ch => earlier d (earlier (tareWait s ch) (creepWait s ch))) none

/-- R61: a channel's time since tare advances, held at 4294967295 ms. -/
def clockedChannel (us : Nat) (ch : Channel) : Channel :=
  if tareClockRuns ch.state then { ch with timeSinceTare := min 4294967295000 (ch.timeSinceTare + us) } else ch

/-- Time passes in which nothing happens: the timebase and the times since tare advance. -/
def passClock (us : Nat) (s : State) : State :=
  { s with timebase := s.timebase + us, gas := { s.gas with channels := s.gas.channels.map (clockedChannel us) } }

/-- R61: channel c, whose time since tare has reached the tare interval time, falls due. -/
def fallDue (c : ChannelNo) (s : State) : State :=
  if tareWait s s.gas.channels[c] = some 0 then setTareDue c s else s

/-- R64: the increments that have come to lie more than 1000 ms back leave an IDLE channel's window together, and the sum
of what is left is judged (log 21). -/
def ageCreep (c : ChannelNo) (s : State) : State :=
  if creepWait s s.gas.channels[c] = some 0 then
    judgeCreep c (modifyChannel c
      (fun ch => { ch with creepWindow := ch.creepWindow.dropWhile fun i => i.1 + 1000000 < s.timebase }) s)
  else s

/-- What one moment brings. Several channels that fall due at one moment join the tare queue in channel-number order, and
tares fall due before creep windows are judged: the spec orders neither, and the order is the model's choice (log 32). A
moment ends as a command does: a report that it makes ready begins at once where the transmitter is idle (R178, log 8). -/
def moment (s : State) : State := finish (forChannels ageCreep (forChannels fallDue s))

/-- Time passes from one moment to the next. Each moment sets a tare due or takes an increment out of a window, so `n`
bounds their number. -/
def passTime : Nat → Nat → State → State
  | 0, us, s => passClock us s
  | n + 1, us, s =>
    match nextMoment s with
    | some d => if d ≤ us then passTime n (us - d) (moment (passClock d s)) else passClock us s
    | none => passClock us s

/-- The passing of time by the block's own timebase: R11 reads it, time since tare (R61) and the creep windows (R64) follow
it, in the order of the moments at which they act (log 1; at one moment, log 32). -/
def elapse (us : Nat) (s : State) : State :=
  if us = 0 then s else passTime (4 + (s.gas.channels.toList.map (·.creepWindow.length)).sum) us s

end Sys2Proof.Machine
end

