-- ==== Sys2Proof/Machine/Plant.lean ====
section
/-! DEFINITION. The meanings of the commands of the plant side. Each ends in a next state. -/

namespace Sys2Proof.Machine

/-- FORWARD_ENCODER_STEP (R1). -/
def execForwardEncoderStep (elapsed : Nat) (inputs : List SampledInput) (order : List Nat) (s : State) : Outcome :=
  completes (forwardStep order (elapse elapsed (sampleInputs inputs s)))

/-- REVERSE_ENCODER_STEP (R1, R2). -/
def execReverseEncoderStep (elapsed : Nat) (s : State) : Outcome := completes (reverseStep (elapse elapsed s))

/-- INDEX_PULSE (R3, R4). -/
def execIndexPulse (s : State) : Outcome := completes (takeIndex s)

/-- STEP_COUNT_REACHES_2888 (R4). -/
def execStepCountReaches2888 (s : State) : Outcome := completes (takeStepLimit s)

/-- STALL_TIMER_EXPIRY (R14). -/
def execStallTimerExpiry (s : State) : Outcome := completes (stallExpires s)

/-- DRIVE_READY_CHANGE (R14, R15). -/
def execDriveReadyChange (ready : Bool) (s : State) : Outcome := completes (changeDriveReady ready s)

/-- STANDSTILL_TIMER_EXPIRY (R16, R160). -/
def execStandstillTimerExpiry (s : State) : Outcome := completes (standstillExpires s)

/-- R170 and the power-on rule of every chapter: every piece of state takes its power-on value. The plant's inputs and the
model's own fields are what they are. -/
def powerOnState (s : State) : State :=
  { State.atPowerOn s.inputs with pending := s.pending, timebase := s.timebase, freeIx := s.freeIx }

/-- POWER_ON (R170). -/
def execPowerOn (s : State) : Outcome := completes (powerOnState s)

/-- METER_INCREMENT (R50, R56, R64). -/
def execMeterIncrement (elapsed : Nat) (channel : ChannelNo) (mg : Int) (s : State) : Outcome :=
  completes (takeIncrement channel mg (elapse elapsed s))

/-- METER_ERROR (R55). -/
def execMeterError (channel : ChannelNo) (s : State) : Outcome := completes (takeMeterError channel s)

/-- R51: the no-flow timer runs out in CHARGING. -/
def noFlowExpires (c : ChannelNo) (s : State) : State :=
  if s.gas.channels[c].noFlowTimer.isSome then closeIfCharging .noFlow c s else s

/-- NO_FLOW_TIMER_EXPIRY (R51). -/
def execNoFlowTimerExpiry (channel : ChannelNo) (s : State) : Outcome := completes (noFlowExpires channel s)

/-- R56: the settle timer runs out in SETTLING. -/
def settleExpires (c : ChannelNo) (s : State) : State :=
  if s.gas.channels[c].settleTimer.isSome ∧ s.gas.channels[c].state = .settling then endSettle c s else s

/-- SETTLE_TIMER_EXPIRY (R56). -/
def execSettleTimerExpiry (channel : ChannelNo) (s : State) : Outcome := completes (settleExpires channel s)

/-- R63: the tare timer runs out in TARE. -/
def tareExpires (c : ChannelNo) (s : State) : State :=
  if s.gas.channels[c].tareTimer.isSome ∧ s.gas.channels[c].state = .tare then endTare c s else s

/-- TARE_TIMER_EXPIRY (R63). -/
def execTareTimerExpiry (channel : ChannelNo) (s : State) : Outcome := completes (tareExpires channel s)

/-- R61: time since tare reaches the tare interval time, in the states in which it advances (log 30). -/
def tareTimeReached (c : ChannelNo) (s : State) : State :=
  if tareClockRuns s.gas.channels[c].state then
    setTareDue c (modifyChannel c
      (fun ch => { ch with timeSinceTare := max ch.timeSinceTare (s.config.tareIntervalTime * 1000000) }) s)
  else s

/-- TARE_INTERVAL_TIME_REACHED (R61). -/
def execTareIntervalTimeReached (channel : ChannelNo) (s : State) : Outcome := completes (tareTimeReached channel s)

/-- R65: the supply-pressure reading changes. -/
def changePressure (kPa : Word16) (s : State) : State :=
  evaluateSupply { s with inputs := { s.inputs with pressure := kPa } }

/-- SUPPLY_PRESSURE_CHANGE (R65). -/
def execSupplyPressureChange (kPa : Word16) (s : State) : Outcome := completes (changePressure kPa s)

/-- R27: the bell-closed input of a head takes a level. -/
def bellClosedLevel (p : PocketNo) (active : Bool) (s : State) : State :=
  let was := s.inputs.bellClosed[p]
  let s := { s with inputs := { s.inputs with bellClosed := s.inputs.bellClosed.set p active } }
  if active && !was then bellClosedActive p s else s

/-- BELL_CLOSED_INPUT (R27). -/
def execBellClosedInput (head : PocketNo) (active : Bool) (s : State) : Outcome :=
  completes (bellClosedLevel head active s)

/-- R74: the jaw-closed input of a head takes a level. -/
def jawClosedLevel (p : PocketNo) (active : Bool) (s : State) : State :=
  let was := s.inputs.jawClosed[p]
  let s := { s with inputs := { s.inputs with jawClosed := s.inputs.jawClosed.set p active } }
  if active && !was then jawClosedActive p s else s

/-- JAW_CLOSED_INPUT (R74). -/
def execJawClosedInput (head : PocketNo) (active : Bool) (s : State) : Outcome :=
  completes (jawClosedLevel head active s)

/-- JAW_TIMER_EXPIRY (R74, R75). -/
def execJawTimerExpiry (head : PocketNo) (s : State) : Outcome := completes (jawTimeout head s)

/-- JAW_FORCE_READING (R76). -/
def execJawForceReading (head : PocketNo) (newtons : Int) (s : State) : Outcome :=
  completes (followForce head newtons s)

/-- R80: the bell-open input of a head takes a level. -/
def bellOpenLevel (p : PocketNo) (active : Bool) (s : State) : State :=
  let was := s.inputs.bellOpen[p]
  let s := { s with inputs := { s.inputs with bellOpen := s.inputs.bellOpen.set p active } }
  if active && !was then bellOpenActive p s else s

/-- BELL_OPEN_INPUT (R80). -/
def execBellOpenInput (head : PocketNo) (active : Bool) (s : State) : Outcome := completes (bellOpenLevel head active s)

/-- WEIGHER_RECORD (R112). -/
def execWeigherRecord (weight : Option Word16) (s : State) : Outcome := completes (takeWeight weight s)

/-- R111: the gate eye takes a level; becoming active sets the latch. -/
def gateEyeLevel (active : Bool) (s : State) : State :=
  let was := s.inputs.gateEye
  let s := { s with inputs := { s.inputs with gateEye := active } }
  if active && !was then { s with trail := { s.trail with eyeLatch := true } } else s

/-- GATE_EYE_INPUT (R111). -/
def execGateEyeInput (active : Bool) (s : State) : Outcome := completes (gateEyeLevel active s)

/-- R117: the gate position sensor changes; showing the commanded position confirms an open watch. -/
def gateSensorShows (shown : Option GatePos) (s : State) : State :=
  let s := { s with inputs := { s.inputs with gateSensor := shown } }
  if shown = some s.trail.gateCommand then { s with trail := { s.trail with watch := none } } else s

/-- GATE_POSITION_SENSOR (R117). -/
def execGatePositionSensor (shown : Option GatePos) (s : State) : Outcome := completes (gateSensorShows shown s)

/-- GATE_SETTLE_TIMER_EXPIRY (R117, R118): an open watch ends unconfirmed. -/
def execGateSettleTimerExpiry (s : State) : Outcome := completes (gateUnconfirmed s)

/-- The level of an interlock input. -/
def interlockLevel (input : InterlockInput) (s : State) : Bool :=
  match input with
  | .guard => s.inputs.guardDoor
  | .leak => s.inputs.leak

/-- An interlock input takes a level. -/
def setInterlockLevel (input : InterlockInput) (active : Bool) (s : State) : State :=
  match input with
  | .guard => { s with inputs := { s.inputs with guardDoor := active } }
  | .leak => { s with inputs := { s.inputs with leak := active } }

/-- The latch cause of an interlock input. -/
def latchCauseOf : InterlockInput → LatchCause
  | .guard => .guard
  | .leak => .leak

/-- The halt cause of an interlock input. -/
def haltCauseOf : InterlockInput → HaltCause
  | .guard => .guard
  | .leak => .leak

/-- R162: the latch is set. If it was clear its cause is the input's, and INTERLOCK_SET is sent with the line state as it
stands before any HALT (log 26). -/
def setLatch (input : InterlockInput) (s : State) : State :=
  match s.line.latch with
  | some _ => s
  | none =>
    sendReport (.interlockSet (latchCauseOf input) s.line.state)
      { s with line := { s.line with latch := some (latchCauseOf input) } }

/-- R162: an interlock input changes; becoming active sets the latch and hands its halt cause. -/
def changeInterlock (input : InterlockInput) (active : Bool) (s : State) : State :=
  let was := interlockLevel input s
  let s := setInterlockLevel input active s
  if active && !was then takeHaltCause (haltCauseOf input) (setLatch input s) else s

/-- INTERLOCK_INPUT_ACTIVE (R162). -/
def execInterlockInputActive (input : InterlockInput) (active : Bool) (s : State) : Outcome :=
  completes (changeInterlock input active s)

/-- R155: the sync timer runs out in STARTING. -/
def syncExpires (s : State) : State :=
  if s.line.syncTimer.isSome ∧ s.line.state = .starting then takeHaltCause .syncTimeout s else s

/-- SYNC_TIMER_EXPIRY (R155). -/
def execSyncTimerExpiry (s : State) : Outcome := completes (syncExpires s)

/-- R165: the safe flag becomes set and is handed to the position counter and the lot register. -/
def setSafe (s : State) : State :=
  if s.line.safe then s
  else failChangeover .safeProfile (refreshCeiling { s with line := { s.line with safe := true } })

/-- R164: from stage 0 to stage 1. -/
def quietStage1 (s : State) : State :=
  sendReport (.linkQuiet 1 s.config.quietTime s.line.state)
    { s with line := { s.line with stage := 1, quietTimer := some s.config.quietTime } }

/-- R164: from stage 1 to stage 2: the report, the safe flag, then the drain cause. -/
def quietStage2 (s : State) : State :=
  let s := sendReport (.linkQuiet 2 s.config.quietTime s.line.state)
    { s with line := { s.line with stage := 2, quietTimer := none } }
  takeDrainCause .linkQuiet (setSafe s)

/-- R164: the quiet timer runs out. -/
def quietExpires (s : State) : State :=
  if s.line.quietTimer.isSome then
    match s.line.stage with
    | 0 => quietStage1 s
    | 1 => quietStage2 s
    | _ => s
  else s

/-- QUIET_TIMER_EXPIRY (R164). -/
def execQuietTimerExpiry (s : State) : Outcome := completes (quietExpires s)

end Sys2Proof.Machine
end

