-- ==== Sys2Proof/Machine/Ports.lean ====
section
/-! DEFINITION. The meanings of the commands of the ports. A request is the arrival of the whole frame that carries it
(log 3): it is queued, refused or taken as Machine/Link.lean gives, and what its owner does is in Machine/Requests.lean.
Each ends in a next state. -/

namespace Sys2Proof.Machine

/-- BYTE_RECEIVED (R171). The byte may end a frame that is taken at once, so the sampled inputs come with it (R85, log 4). -/
def execByteReceived (port : Port) (byte : WithInputs Byte) (s : State) : Outcome :=
  completes (receiveByte port byte.value (sampleInputs byte.inputs s))

/-- FRAME_RECEIVED (R174), with the sampled inputs that a reply built in it shows (R85, log 4). -/
def execFrameReceived (port : Port) (frame : WithInputs Frame) (s : State) : Outcome :=
  completes (receiveFrame port frame.value (sampleInputs frame.inputs s))

/-- GAP_TIMER_EXPIRY (R172). -/
def execGapTimerExpiry (port : Port) (s : State) : Outcome := completes (gapExpires port s)

/-- TRANSMIT_END (R178), with the sampled inputs that the reply to the next request shows (R85, log 4). -/
def execTransmitEnd (port : WithInputs Port) (s : State) : Outcome :=
  completes (endTransmission port.value (sampleInputs port.inputs s))

/-- UNKNOWN_KIND (R176). -/
def execUnknownKind (port : Port) (kind tag : Byte) (body : List Byte) (s : State) : Outcome :=
  completes (receiveFrame port { kind := kind, tag := tag, body := body } s)

/-- PING (R182). -/
def execPing (port : Port) (tag : Byte) (s : State) : Outcome :=
  completes (receiveFrame port { kind := kindPing, tag := tag, body := [] } s)

/-- GET_STATUS (R168). -/
def execGetStatus (port : Port) (tag : Byte) (s : State) : Outcome :=
  completes (receiveFrame port { kind := kindGetStatus, tag := tag, body := [] } s)

/-- START_LINE (R154). -/
def execStartLine (port : Port) (tag : Byte) (lot : Word32) (slot : Byte) (s : State) : Outcome :=
  completes (receiveFrame port { kind := kindStartLine, tag := tag, body := le32 lot ++ [slot] } s)

/-- STOP_LINE (R156). -/
def execStopLine (port : Port) (tag : Byte) (mode : Byte) (s : State) : Outcome :=
  completes (receiveFrame port { kind := kindStopLine, tag := tag, body := [mode] } s)

/-- RESYNC (R7). -/
def execResync (port : Port) (tag : Byte) (s : State) : Outcome :=
  completes (receiveFrame port { kind := kindResync, tag := tag, body := [] } s)

/-- CLEAR_INTERLOCK (R163). -/
def execClearInterlock (port : Port) (tag : Byte) (s : State) : Outcome :=
  completes (receiveFrame port { kind := kindClearInterlock, tag := tag, body := [] } s)

/-- CLEAR_SAFE (R165). -/
def execClearSafe (port : Port) (tag : Byte) (s : State) : Outcome :=
  completes (receiveFrame port { kind := kindClearSafe, tag := tag, body := [] } s)

/-- SET_CONFIG (R167). -/
def execSetConfig (port : Port) (tag : Byte) (values : ConfigWire) (s : State) : Outcome :=
  completes (receiveFrame port { kind := kindSetConfig, tag := tag, body := configBytes values } s)

/-- GET_HALT_RECORD (R161). -/
def execGetHaltRecord (port : Port) (tag : Byte) (s : State) : Outcome :=
  completes (receiveFrame port { kind := kindGetHaltRecord, tag := tag, body := [] } s)

/-- RESTART (R169). -/
def execRestart (port : Port) (tag : Byte) (s : State) : Outcome :=
  completes (receiveFrame port { kind := kindRestart, tag := tag, body := [] } s)

/-- WRITE_RECIPE (R134). -/
def execWriteRecipe (port : Port) (tag : Byte) (slot : Byte) (recipe : RecipeWire) (s : State) : Outcome :=
  completes (receiveFrame port { kind := kindWriteRecipe, tag := tag, body := slot :: recipeBytes recipe } s)

/-- RESERVE_RECIPE (R136). -/
def execReserveRecipe (port : Port) (tag : Byte) (slot : Byte) (s : State) : Outcome :=
  completes (receiveFrame port { kind := kindReserveRecipe, tag := tag, body := [slot] } s)

/-- WRITE_RECIPE_RESERVED (R137). -/
def execWriteRecipeReserved (port : Port) (tag : Byte) (slot : Byte) (recipe : RecipeWire) (s : State) : Outcome :=
  completes (receiveFrame port
    { kind := kindWriteRecipeReserved, tag := tag, body := slot :: recipeBytes recipe } s)

/-- READ_RECIPE (R135). -/
def execReadRecipe (port : Port) (tag : Byte) (slot : Byte) (s : State) : Outcome :=
  completes (receiveFrame port { kind := kindReadRecipe, tag := tag, body := [slot] } s)

/-- CHANGEOVER (R145). -/
def execChangeover (port : Port) (tag : Byte) (target : Byte) (expected : Word16) (lot : Word32)
    (boundary : Byte) (n : Word16) (s : State) : Outcome :=
  completes (receiveFrame port
    { kind := kindChangeover, tag := tag, body := target :: (le16 expected ++ le32 lot ++ [boundary] ++ le16 n) } s)

/-- ABORT_CHANGEOVER (R149). -/
def execAbortChangeover (port : Port) (tag : Byte) (s : State) : Outcome :=
  completes (receiveFrame port { kind := kindAbortChangeover, tag := tag, body := [] } s)

/-- GET_CHANGEOVER (R151). -/
def execGetChangeover (port : Port) (tag : Byte) (s : State) : Outcome :=
  completes (receiveFrame port { kind := kindGetChangeover, tag := tag, body := [] } s)

/-- GET_LOT (R144). -/
def execGetLot (port : Port) (tag : Byte) (s : State) : Outcome :=
  completes (receiveFrame port { kind := kindGetLot, tag := tag, body := [] } s)

/-- GET_HEAD (R104), with the sampled inputs that its reply shows (R85, log 4). -/
def execGetHead (port : Port) (tag : Byte) (head : WithInputs Byte) (s : State) : Outcome :=
  completes (receiveFrame port { kind := kindGetHead, tag := tag, body := [head.value] } (sampleInputs head.inputs s))

/-- SET_HEAD_OUT (R101, R102). -/
def execSetHeadOut (port : Port) (tag : Byte) (head : Byte) (direction : Byte) (s : State) : Outcome :=
  completes (receiveFrame port { kind := kindSetHeadOut, tag := tag, body := [head, direction] } s)

/-- RESTORE_HEAD (R100). -/
def execRestoreHead (port : Port) (tag : Byte) (head : Byte) (s : State) : Outcome :=
  completes (receiveFrame port { kind := kindRestoreHead, tag := tag, body := [head] } s)

/-- READ_RETIREMENTS (R105). -/
def execReadRetirements (port : Port) (tag : Byte) (s : State) : Outcome :=
  completes (receiveFrame port { kind := kindReadRetirements, tag := tag, body := [] } s)

/-- CLEAR_TALLIES (R103). -/
def execClearTallies (port : Port) (tag : Byte) (head : Byte) (s : State) : Outcome :=
  completes (receiveFrame port { kind := kindClearTallies, tag := tag, body := [head] } s)

/-- GET_CHANNEL (R67). -/
def execGetChannel (port : Port) (tag : Byte) (channel : Byte) (s : State) : Outcome :=
  completes (receiveFrame port { kind := kindGetChannel, tag := tag, body := [channel] } s)

/-- SET_CHANNEL (R66). -/
def execSetChannel (port : Port) (tag : Byte) (channel : Byte) (action : Byte) (s : State) : Outcome :=
  completes (receiveFrame port { kind := kindSetChannel, tag := tag, body := [channel, action] } s)

/-- TAKE_TRACE (R124). -/
def execTakeTrace (port : Port) (tag : Byte) (count : Byte) (s : State) : Outcome :=
  completes (receiveFrame port { kind := kindTakeTrace, tag := tag, body := [count] } s)

/-- SET_REPORT_MASK (R183). -/
def execSetReportMask (port : Port) (tag : Byte) (mask : Byte) (s : State) : Outcome :=
  completes (receiveFrame port { kind := kindSetReportMask, tag := tag, body := [mask] } s)

end Sys2Proof.Machine
end

