-- ==== Sys2Proof/Machine/Dispatch.lean ====
section
/-! DEFINITION. The meaning of every command, one arm for each constructor of Instr. -/

namespace Sys2Proof.Machine

/-- The effect of a command on everything but the queue. -/
def exec (i : Instr) (s : State) : Host.Outcome State Fault Refusal :=
  match i with
  | .forwardEncoderStep elapsed inputs order => Sys2Proof.Machine.execForwardEncoderStep elapsed inputs order s
  | .reverseEncoderStep elapsed => Sys2Proof.Machine.execReverseEncoderStep elapsed s
  | .indexPulse => Sys2Proof.Machine.execIndexPulse s
  | .stepCountReaches2888 => Sys2Proof.Machine.execStepCountReaches2888 s
  | .stallTimerExpiry => Sys2Proof.Machine.execStallTimerExpiry s
  | .driveReadyChange ready => Sys2Proof.Machine.execDriveReadyChange ready s
  | .standstillTimerExpiry => Sys2Proof.Machine.execStandstillTimerExpiry s
  | .powerOn => Sys2Proof.Machine.execPowerOn s
  | .meterIncrement elapsed channel mg => Sys2Proof.Machine.execMeterIncrement elapsed channel mg s
  | .meterError channel => Sys2Proof.Machine.execMeterError channel s
  | .noFlowTimerExpiry channel => Sys2Proof.Machine.execNoFlowTimerExpiry channel s
  | .settleTimerExpiry channel => Sys2Proof.Machine.execSettleTimerExpiry channel s
  | .tareTimerExpiry channel => Sys2Proof.Machine.execTareTimerExpiry channel s
  | .tareIntervalTimeReached channel => Sys2Proof.Machine.execTareIntervalTimeReached channel s
  | .supplyPressureChange kPa => Sys2Proof.Machine.execSupplyPressureChange kPa s
  | .bellClosedInput head active => Sys2Proof.Machine.execBellClosedInput head active s
  | .jawClosedInput head active => Sys2Proof.Machine.execJawClosedInput head active s
  | .jawTimerExpiry head => Sys2Proof.Machine.execJawTimerExpiry head s
  | .jawForceReading head newtons => Sys2Proof.Machine.execJawForceReading head newtons s
  | .bellOpenInput head active => Sys2Proof.Machine.execBellOpenInput head active s
  | .weigherRecord weight => Sys2Proof.Machine.execWeigherRecord weight s
  | .gateEyeInput active => Sys2Proof.Machine.execGateEyeInput active s
  | .gatePositionSensor shown => Sys2Proof.Machine.execGatePositionSensor shown s
  | .gateSettleTimerExpiry => Sys2Proof.Machine.execGateSettleTimerExpiry s
  | .interlockInputActive input active => Sys2Proof.Machine.execInterlockInputActive input active s
  | .syncTimerExpiry => Sys2Proof.Machine.execSyncTimerExpiry s
  | .quietTimerExpiry => Sys2Proof.Machine.execQuietTimerExpiry s
  | .frameReceived port frame => Sys2Proof.Machine.execFrameReceived port frame s
  | .gapTimerExpiry port => Sys2Proof.Machine.execGapTimerExpiry port s
  | .transmitEnd port => Sys2Proof.Machine.execTransmitEnd port s
  | .unknownKind port kind tag body => Sys2Proof.Machine.execUnknownKind port kind tag body s
  | .ping port tag => Sys2Proof.Machine.execPing port tag s
  | .getStatus port tag => Sys2Proof.Machine.execGetStatus port tag s
  | .startLine port tag lot slot => Sys2Proof.Machine.execStartLine port tag lot slot s
  | .stopLine port tag mode => Sys2Proof.Machine.execStopLine port tag mode s
  | .resync port tag => Sys2Proof.Machine.execResync port tag s
  | .clearInterlock port tag => Sys2Proof.Machine.execClearInterlock port tag s
  | .clearSafe port tag => Sys2Proof.Machine.execClearSafe port tag s
  | .setConfig port tag values => Sys2Proof.Machine.execSetConfig port tag values s
  | .getHaltRecord port tag => Sys2Proof.Machine.execGetHaltRecord port tag s
  | .restart port tag => Sys2Proof.Machine.execRestart port tag s
  | .writeRecipe port tag slot recipe => Sys2Proof.Machine.execWriteRecipe port tag slot recipe s
  | .reserveRecipe port tag slot => Sys2Proof.Machine.execReserveRecipe port tag slot s
  | .writeRecipeReserved port tag slot recipe => Sys2Proof.Machine.execWriteRecipeReserved port tag slot recipe s
  | .readRecipe port tag slot => Sys2Proof.Machine.execReadRecipe port tag slot s
  | .changeover port tag target expected newLot boundary n => Sys2Proof.Machine.execChangeover port tag target expected newLot boundary n s
  | .abortChangeover port tag => Sys2Proof.Machine.execAbortChangeover port tag s
  | .getChangeover port tag => Sys2Proof.Machine.execGetChangeover port tag s
  | .getLot port tag => Sys2Proof.Machine.execGetLot port tag s
  | .getHead port tag head => Sys2Proof.Machine.execGetHead port tag head s
  | .setHeadOut port tag head direction => Sys2Proof.Machine.execSetHeadOut port tag head direction s
  | .restoreHead port tag head => Sys2Proof.Machine.execRestoreHead port tag head s
  | .readRetirements port tag => Sys2Proof.Machine.execReadRetirements port tag s
  | .clearTallies port tag head => Sys2Proof.Machine.execClearTallies port tag head s
  | .getChannel port tag channel => Sys2Proof.Machine.execGetChannel port tag channel s
  | .setChannel port tag channel action => Sys2Proof.Machine.execSetChannel port tag channel action s
  | .takeTrace port tag count => Sys2Proof.Machine.execTakeTrace port tag count s
  | .setReportMask port tag mask => Sys2Proof.Machine.execSetReportMask port tag mask s
  | .byteReceived port byte => Sys2Proof.Machine.execByteReceived port byte s

end Sys2Proof.Machine
end

