-- ==== Sys2Proof/Machine/Step.lean ====
section
/-! DEFINITION. One step: the command at the front of the queue is run; on an empty queue one millisecond passes. -/

namespace Sys2Proof.Machine

/-- The queue's front command is taken and run on the state with the queue's rest. With nothing waiting, time alone passes:
1 ms, which advances what follows the block's own timebase (log 1). -/
def step (s : State) : Host.Outcome State Fault Refusal :=
  match s.pending with
  | c :: rest => exec c { s with pending := rest }
  | [] => completes (elapse 1000 s)

/-- The command that a word spells by the table's bits, put at the front of the queue. The table gives no bits, so no word
spells a command and the state is unchanged (log 23). -/
def State.withFetchWord (s : State) (nbits w : Nat) : State :=
  match decodeTableWord nbits w with
  | some c => { s with pending := c :: s.pending }
  | none => s

end Sys2Proof.Machine
end

