-- ==== Sys2Proof/Safety.lean ====
section
/-! DEFINITION. What well-formed states of the TGC-24 satisfy, block by block, and the words in which claims speak of a
request: the port it finds free, the state its owner is handed, and the state in which it is answered. -/

namespace Sys2Proof.Machine

/-! ### Well-formed states -/

/-- The ranges of Table 1.1; the step count is held at 0 in UNSYNCED and FAULTED (R3), and the overspeed run counts exactly
while the episode is open (R13). -/
def PositionCounter.wf (pc : PositionCounter) : Bool :=
  pc.position < 2880 && pc.backlash ≤ 4 && pc.stepCount ≤ 2888 && pc.overspeedRun ≤ 8
    && (pc.sync = .provisional || pc.sync = .synced || pc.stepCount = 0)
    && pc.overspeedOpen = decide (0 < pc.overspeedRun)

/-- The run permit is that of Table 8.2 (R153); while the latch is set the line is in HALT or STOPPED (R162); the drain
cause is present exactly in DRAIN (Table 8.1); the sync timer runs in STARTING alone (R155); a line in HALT has a halt
record (R159). -/
def LineControl.wf (l : LineControl) : Bool :=
  l.runPermit = permitIn l.state
    && (l.latch.isNone || l.state = .halt || l.state = .stopped)
    && l.drainCause.isSome = decide (l.state = .drain)
    && (l.syncTimer.isNone || l.state = .starting)
    && (l.state ≠ .halt || l.haltRecord.isSome)

/-- The report queue holds at most 32 reports, highest level first (R180, R181); the dropped count holds at 65535. -/
def LinkController.wf (l : LinkController) : Bool :=
  l.reports.length ≤ 32 && decide (l.reports.Pairwise fun a b => reportLevel b ≤ reportLevel a) && l.dropped ≤ 65535

/-! ### Requests -/

/-- A port whose queue and refusal slot are empty takes a request in the event of its arrival (R175); the service port
receives only while it is not sending (R179). -/
def freePort (port : Port) (s : State) : Bool :=
  (portOf port s).queue = [] && (portOf port s).refusal = none && !deaf port s

/-- The state in which the owner of a request that arrives on a free port is handed it: the receiver HUNTING and the
request alone in the queue; on the line port also the sign of life (R164) and the last line-port request (R161). -/
def atOwner (port : Port) (f : Frame) (s : State) : State :=
  match port with
  | .line =>
    { s with
      line := { s.line with
        stage := 0, quietTimer := if s.config.quietTime = 0 then none else some s.config.quietTime,
        lastRequest := some { kind := f.kind, tag := f.tag } },
      link := { s.link with linePort := { s.link.linePort with receiver := .hunting, gapTimer := none, queue := [f] } } }
  | .service =>
    { s with link := { s.link with
      servicePort := { s.link.servicePort with receiver := .hunting, gapTimer := none, queue := [f] } } }

/-- The outcome of a request that its owner answers in a state: its reply is outstanding, and the command ends (R175,
R177). -/
def answered (port : Port) (f : Frame) (answer : Answer) (s : State) : Outcome :=
  completes (modifyPort port (fun v => { v with outstanding := some { what := .reply, frame := answerFrame f answer } }) s)

/-! ### The loss of position (R6) -/

/-- A pocket after the loss: a CAN is UNKNOWN, any other content is kept, and the pocket is IDLE and unbound. -/
def lostPocket (k : Pocket) : Pocket :=
  clearedPocket (match k.content with
    | .can _ => .unknown
    | other => other)

end Sys2Proof.Machine
end

