-- ==== Sys2Proof/WellFormed.lean ====
section
/-! DEFINITION. Which commands are well formed: what no wire of the TGC-24 could bring is refused here. The bounds that
a type already gives (a head number, a byte) need no check. -/

namespace Sys2Proof

/-- A body of at most 240 bytes, so that LEN is at most 242 (Table 10.1). -/
def Frame.wellFormed (f : Frame) : Bool := f.body.length ≤ 240

/-- The request kinds are 01h to 1Bh (Table 10.9). -/
def isRequestKind (kind : Byte) : Bool := 1 ≤ kind.toNat && kind.toNat ≤ 27

/-- A meter increment, taken as a signed 16-bit number of mg: Table 3.1 gives that width to the masses it joins, and the spec
gives none for the increment itself. The width is the model's choice (log 19); `exec` takes an increment of any size. -/
def inWord16 (n : Int) : Bool := -32768 ≤ n && n ≤ 32767

/-- A hand-off order names pockets 0 to 23 and the trail (24), each at most once (log 6). -/
def orderWellFormed (order : List Nat) : Bool := order.all (· ≤ 24) && order.Nodup

/-- The check on a command. -/
def WellFormed : Instr → Bool
  | .forwardEncoderStep _ _ order => orderWellFormed order
  | .meterIncrement _ _ mg => inWord16 mg
  | .frameReceived _ f => f.value.wellFormed
  | .unknownKind _ kind _ body => !isRequestKind kind && body.length ≤ 240
  | .reverseEncoderStep _ | .indexPulse | .stepCountReaches2888 | .stallTimerExpiry | .driveReadyChange _
  | .standstillTimerExpiry | .powerOn | .meterError _ | .noFlowTimerExpiry _ | .settleTimerExpiry _
  | .tareTimerExpiry _ | .tareIntervalTimeReached _ | .supplyPressureChange _ | .bellClosedInput _ _
  | .jawClosedInput _ _ | .jawTimerExpiry _ | .jawForceReading _ _ | .bellOpenInput _ _ | .weigherRecord _
  | .gateEyeInput _ | .gatePositionSensor _ | .gateSettleTimerExpiry | .interlockInputActive _ _
  | .syncTimerExpiry | .quietTimerExpiry | .gapTimerExpiry _ | .transmitEnd _ | .ping _ _ | .getStatus _ _
  | .startLine _ _ _ _ | .stopLine _ _ _ | .resync _ _ | .clearInterlock _ _ | .clearSafe _ _
  | .setConfig _ _ _ | .getHaltRecord _ _ | .restart _ _ | .writeRecipe _ _ _ _ | .reserveRecipe _ _ _
  | .writeRecipeReserved _ _ _ _ | .readRecipe _ _ _ | .changeover _ _ _ _ _ _ _ | .abortChangeover _ _
  | .getChangeover _ _ | .getLot _ _ | .getHead _ _ _ | .setHeadOut _ _ _ _ | .restoreHead _ _ _
  | .readRetirements _ _ | .clearTallies _ _ _ | .getChannel _ _ _ | .setChannel _ _ _ _ | .takeTrace _ _ _
  | .setReportMask _ _ _ | .byteReceived _ _ => true

end Sys2Proof
end

