-- ==== Sys2Proof/Certificates/Slice0/Obligations.lean ====
section
/-! DEFINITION. The statements about the TGC-24. Each command's result is stated as the whole next state before the end of
the command, `finish`, whose own effect (the lamp and the transmitters) is stated once; an explicit record update says by
itself what a command leaves unchanged. -/

open Sys2Proof Sys2Proof.Machine

/-! ### The queue, the end of a command, the report queue -/

/-- A step takes the command at the front of the queue and runs it on the state with the queue's rest. -/
def Obligations.StepRunsTheFrontCommand : Prop :=
  ∀ (c : Instr) (rest : List Instr) (s : State), s.pending = c :: rest → step s = exec c { s with pending := rest }

/-- With no command waiting, 1 ms passes (the model's choice, log 1). R61, R64: what passing time does. The timebase
advances. Time since tare advances in IDLE, CHARGING and SETTLING, held at 4294967295 ms, and makes a CHARGING or SETTLING
channel's tare due where it reaches the interval. An IDLE channel, where no other IDLE channel acts, joins the tare queue at
the moment it reaches the interval. The increments of a moment more than 1000 ms back (log 21) leave an IDLE channel's
window together, and a sum above 20 mg of what is left is a CREEP fault. Each moment ends as a command does (R178, log 8):
where an event has ended, which `finish s = s` says of s, time that passes leaves no frame that an idle transmitter has not
begun. -/
def Obligations.IdleStepPassesAMillisecondAndTimeActsOnChannels : Prop :=
  let interval := fun (s : State) => s.config.tareIntervalTime * 1000000
  let waits := fun (us : Nat) (s : State) (ch : Channel) =>
    ch.tareDue = true ∨ ch.timeSinceTare + us < interval s
  let holds := fun (us : Nat) (s : State) (w : List (Nat × Int)) =>
    ∀ t mg rest, w = (t, mg) :: rest → s.timebase + us ≤ t + 1000000
  let idleQuiet := fun (us : Nat) (s : State) (ch : Channel) =>
    ch.state = .idle → waits us s ch ∧ holds us s ch.creepWindow
  let clocked := fun (us : Nat) (s : State) (ch : Channel) =>
    let time := min 4294967295000 (ch.timeSinceTare + us)
    if ch.state = .idle then { ch with timeSinceTare := time }
    else if ch.state = .charging ∨ ch.state = .settling then
      { ch with timeSinceTare := time, tareDue := ch.tareDue || decide (interval s ≤ time) }
    else ch
  (∀ s : State, s.pending = [] → step s = .next (finish (elapse 1000 s)))
  ∧ (∀ (us : Nat) (s : State), (elapse us s).timebase = s.timebase + us)
  ∧ (∀ (us : Nat) (s : State), finish s = s → finish (elapse us s) = elapse us s)
  ∧ (∀ (us : Nat) (s : State), us ≠ 0 → interval s ≤ 4294967295000 → finish s = s →
      (∀ d : ChannelNo, idleQuiet us s s.gas.channels[d]) →
      elapse us s = { s with
        timebase := s.timebase + us, gas := { s.gas with channels := s.gas.channels.map (clocked us s) } })
  ∧ (∀ (us : Nat) (c : ChannelNo) (s : State), us ≠ 0 → interval s ≤ 4294967295000 →
      (∀ d : ChannelNo, d ≠ c → idleQuiet us s s.gas.channels[d]) →
      let ch := s.gas.channels[c]
      let t := elapse us s
      ch.state = .idle →
      (ch.tareDue = false → interval s ≤ ch.timeSinceTare + us → holds us s ch.creepWindow →
        (t.gas.channels[c].state = .tareWait ∨ t.gas.channels[c].state = .tare) ∧ t.gas.channels[c].tareDue = true
          ∧ t.gas.channels[c].timeSinceTare = min 4294967295000 (max ch.timeSinceTare (interval s))
          ∧ t.gas.tareQueue = (if c ∈ s.gas.tareQueue then s.gas.tareQueue else s.gas.tareQueue ++ [c]))
      ∧ (∀ (moment : Nat) (old kept : List (Nat × Int)), waits us s ch → ch.creepWindow = old ++ kept → old ≠ [] →
          (∀ i ∈ old, i.1 = moment) → moment + 1000000 < s.timebase + us → holds us s kept →
          ((kept.map Prod.snd).sum ≤ 20 →
            t.gas.channels[c] = { ch with
              timeSinceTare := min 4294967295000 (ch.timeSinceTare + us), creepWindow := kept })
          ∧ (20 < (kept.map Prod.snd).sum → s.gas.tareQueue.Nodup →
            t.gas.channels[c].state = .fault ∧ t.gas.channels[c].faultCause = some .creep)))

/-- No command ends in a fault or a refusal, and none touches the commands that wait behind it. Every state that a command or
a step leaves, and the reset state, is one in which an event has ended: the lamp is shown, and no idle transmitter has a frame
to begin. -/
def Obligations.EveryCommandCompletesAndLeavesTheQueue : Prop :=
  (∀ (c : Instr) (s : State), ∃ u, exec c s = .next (finish u) ∧ (finish u).pending = s.pending)
  ∧ (∀ (c : Instr) (s t : State), exec c s = .next t → finish t = t)
  ∧ (∀ s t : State, step s = .next t → finish t = t)
  ∧ finish State.reset = State.reset

/-- The end of a command changes the lamp, the transmitters with what waits for them, the report queue and the dropped
count alone: an idle line transmitter begins the outstanding reply, else the head report with the dropped count; an idle
service transmitter begins its reply while the receiver is HUNTING (when it is chosen, log 8). The lamp shows Table 8.5. The
moments of elapsed time end in the same way. -/
def Obligations.EndOfACommandShowsTheLampAndBeginsFrames : Prop :=
  (∀ s : State,
      finish s = { s with
        line := { s.line with lamp := (finish s).line.lamp },
        link := { s.link with linePort := (finish s).link.linePort, servicePort := (finish s).link.servicePort,
                              reports := (finish s).link.reports, dropped := (finish s).link.dropped } }
      ∧ (match s.link.linePort.transmitter, s.link.linePort.outstanding, s.link.reports with
        | none, some t, _ =>
          (finish s).link.linePort = { s.link.linePort with transmitter := some t, outstanding := none }
            ∧ (finish s).link.reports = s.link.reports ∧ (finish s).link.dropped = s.link.dropped
        | none, none, r :: rest =>
          (finish s).link.linePort
              = { s.link.linePort with transmitter := some { what := .report, frame := reportFrame r s.link.dropped } }
            ∧ (finish s).link.reports = rest ∧ (finish s).link.dropped = 0
        | _, _, _ =>
          (finish s).link.linePort = s.link.linePort
            ∧ (finish s).link.reports = s.link.reports ∧ (finish s).link.dropped = s.link.dropped)
      ∧ (match s.link.servicePort.transmitter, s.link.servicePort.outstanding, s.link.servicePort.receiver with
        | none, some t, .hunting =>
          (finish s).link.servicePort = { s.link.servicePort with transmitter := some t, outstanding := none }
        | _, _, _ => (finish s).link.servicePort = s.link.servicePort))
  ∧ (∀ s : State, let l := (finish s).line.lamp
      (s.line.state = .run → l.green = .steady)
      ∧ (s.line.state = .starting ∨ s.line.state = .drain → l.green = .blinking)
      ∧ (s.line.state = .stopped ∨ s.line.state = .halt → l.green = .off)
      ∧ l.amber = (if s.line.safe then .steady else .off)
      ∧ (s.line.latch ≠ none → l.red = .blinking)
      ∧ (s.line.latch = none → l.red = (if s.line.state = .halt then .steady else .off)))

/-- A report that the mask lets through joins behind every queued report of the same or a higher level and ahead of every
lower one; a full queue loses its newest report of the lowest level, or the arriving one, and the dropped count rises. -/
def Obligations.ReportsQueueByLevelThenAge : Prop :=
  ∀ (r : Report) (s : State), s.link.wf = true →
    (levelEnabled s.link (reportLevel r) = false → sendReport r s = s)
    ∧ (levelEnabled s.link (reportLevel r) = true → s.link.reports.length < 32 →
        ∃ a b, s.link.reports = a ++ b ∧ (∀ q ∈ a, reportLevel r ≤ reportLevel q)
          ∧ (∀ q ∈ b, reportLevel q < reportLevel r)
          ∧ sendReport r s = { s with link := { s.link with reports := a ++ r :: b } })
    ∧ (levelEnabled s.link (reportLevel r) = true → s.link.reports.length = 32 →
        ∃ front lowest, s.link.reports = front ++ [lowest] ∧ (∀ q ∈ front, reportLevel lowest ≤ reportLevel q)
          ∧ (reportLevel lowest < reportLevel r →
              ∃ a b, front = a ++ b ∧ (∀ q ∈ a, reportLevel r ≤ reportLevel q)
                ∧ (∀ q ∈ b, reportLevel q < reportLevel r)
                ∧ sendReport r s = { s with link := { s.link with
                    reports := a ++ r :: b, dropped := min 65535 (s.link.dropped + 1) } })
          ∧ (reportLevel r ≤ reportLevel lowest →
              sendReport r s = { s with link := { s.link with dropped := min 65535 (s.link.dropped + 1) } }))

/-! ### Power-on and reset -/

/-- POWER_ON gives every piece of state its power-on value; the plant's inputs and the queue are what they are, and so
are the two fields of the model's own (log 24). -/
def Obligations.PowerOnGivesThePowerOnState : Prop :=
  ∀ s : State, exec .powerOn s = .next (finish
    { State.atPowerOn s.inputs with pending := s.pending, timebase := s.timebase, freeIx := s.freeIx })

/-- The values that the spec's power-on rules give, block by block. -/
def Obligations.ResetHoldsTheSpecsValues : Prop :=
  let s := State.reset
  s.position.sync = .unsynced ∧ s.position.position = 0 ∧ highWater s.position = 0 ∧ s.position.backlash = 0
    ∧ s.position.stepCount = 0 ∧ s.position.pitchCounter = 0 ∧ s.position.pitchTime = none
    ∧ s.position.overspeedRun = 0 ∧ s.position.overspeedOpen = false ∧ s.position.stallTimer = none
    ∧ s.position.standstillTimer = none ∧ s.position.standstill = true ∧ s.position.speedCeiling = 2000000
  ∧ (∀ p : PocketNo, s.pockets[p] = { content := .unknown, step := .idle, binding := none, halted := false, seatWatch := false })
  ∧ s.infeedGate = false
  ∧ (∀ c : ChannelNo, s.gas.channels[c].state = (if c = 0 then .tare else .tareWait)
      ∧ s.gas.channels[c].preact = 0 ∧ s.gas.channels[c].zeroOffset = 0 ∧ s.gas.channels[c].standing = 0
      ∧ s.gas.channels[c].accumulated = 0 ∧ s.gas.channels[c].valveOpen = false)
  ∧ s.gas.tareQueue = [0, 1, 2, 3] ∧ s.gas.waiting = [] ∧ s.gas.supply = .ok ∧ s.gas.minInForce = none
  ∧ (∀ p : PocketNo, s.gas.selectors[p] = none)
  ∧ (∀ p : PocketNo, s.crimp[p] = { bellLowered := false, jawClosed := false, stroke := none, watch := none })
  ∧ (∀ p : PocketNo, s.heads[p].state = .inService ∧ s.heads[p].consecutive = 0 ∧ s.heads[p].remainder = 0
      ∧ s.heads[p].zeroOffset = 0 ∧ s.heads[p].lastCan = none ∧ s.heads[p].cause = none ∧ s.heads[p].overflow = false
      ∧ s.heads[p].tallies = { seat := 0, dose := 0, crimp := 0, jaw := 0, cal := 0, stuck := 0 })
  ∧ s.retirements = []
  ∧ s.trail.entries = [] ∧ s.trail.gateCommand = .hold ∧ s.trail.eyeLatch = false
  ∧ s.trace.records = [] ∧ s.trace.nextNumber = 1 ∧ s.trace.admissionHeld = false
  ∧ (∀ i : SlotNo, s.recipes.slots[i] = { generation := 0, content := none })
    ∧ s.recipes.lineReservation = none ∧ s.recipes.serviceReservation = none
  ∧ s.lots.current = none ∧ s.lots.closing = none ∧ s.lots.lastClosed = none ∧ s.lots.changeover = .none
    ∧ s.lots.lastOutcome = none
  ∧ s.line.state = .stopped ∧ s.line.runPermit = false ∧ s.line.drainCause = none ∧ s.line.haltRecord = none
    ∧ s.line.latch = some .powerOn ∧ s.line.safe = false ∧ s.line.stage = 0 ∧ s.line.quietTimer = none
    ∧ s.line.syncTimer = none ∧ s.line.lamp = { green := .off, amber := .off, red := .blinking }
  ∧ s.config = { gateDistance := 6, weigherDistance := 3, retirementLimit := 4, reseatThreshold := 2, probationCount := 3,
                 calibrationLimit := 400, gateSettleTime := 60, stallTime := 120, syncTimeout := 10,
                 tareIntervalCount := 256, tareIntervalTime := 60, quietTime := 2000, safeCeiling := 250000 }
  ∧ s.link.reports = [] ∧ s.link.dropped = 0 ∧ s.link.maskTrace = true ∧ s.link.maskLot = true ∧ s.link.maskFault = true
    ∧ s.link.linePort.queue = [] ∧ s.link.servicePort.queue = [] ∧ s.link.linePort.receiver = .hunting
    ∧ s.link.linePort.transmitter
        = some { what := .report, frame := reportFrame (.interlockSet .powerOn .stopped) 0 }

/-! ### Position counter -/

/-- R1, R3, R8, R10, R11, R13, R14, R16: a forward step at a backlash depth above 0 takes up one count and leaves the
high-water. An advancing step counts and restarts a running stall timer. Outside SYNCED it produces no crossing. In SYNCED a
high-water that is a multiple of 120 is first a pitch boundary: the pitch counter rises modulo 2^32, the pitch time is the
time since the last boundary, held to 1 to 4294967295 µs (log 20), and is judged. Then each pocket's crossing and, at a
boundary, the trail's is handed on once, in the order that the operand gives, DRAIN being judged after each (log 6). A
pocket crosses ADMIT at phase 0, DISCHARGE at 2520, and at each phase of its binding the crossing of that name. Where no
pocket stands at such a phase and the high-water is no multiple of 120, nothing else changes. A step count of 2888, which
log 7 speaks of, is excluded. -/
def Obligations.ForwardStepCountsAndHandsOnItsCrossings : Prop :=
  let handOn : State → Nat → State := fun t i =>
    if h : i < 24 then checkDrain (pocketCrossing ⟨i, h⟩ (phaseAt t.position.position ⟨i, h⟩) t)
    else if t.position.position % 120 = 0 then checkDrain (trailCrossing t)
    else t
  (∀ (e : Nat) (ins : List SampledInput) (ord : List Nat) (s : State),
      let u := elapse e (sampleInputs ins s)
      let pc : PositionCounter := { u.position with
        standstill := false, standstillTimer := some 500, position := (u.position.position + 1) % 2880,
        backlash := u.position.backlash - 1 }
      u.position.backlash ≠ 0 →
        exec (.forwardEncoderStep e ins ord) s = .next (finish { u with position := pc })
          ∧ highWater pc = highWater u.position)
  ∧ (∀ (e : Nat) (ins : List SampledInput) (ord : List Nat) (s : State),
      let u := elapse e (sampleInputs ins s)
      u.position.backlash = 0 → u.position.sync ≠ .synced → u.position.stepCount < 2888 →
        exec (.forwardEncoderStep e ins ord) s = .next (finish { u with position := { u.position with
          standstill := false, standstillTimer := some 500, position := (u.position.position + 1) % 2880,
          stepCount := if u.position.sync = .provisional then u.position.stepCount + 1 else 0,
          stallTimer := u.position.stallTimer.map fun _ => u.config.stallTime } }))
  ∧ (∀ (e : Nat) (ins : List SampledInput) (ord : List Nat) (s : State),
      let u := elapse e (sampleInputs ins s)
      let h := (u.position.position + 1) % 2880
      let v : State := { u with position := { u.position with
        standstill := false, standstillTimer := some 500, position := h, stepCount := u.position.stepCount + 1,
        stallTimer := u.position.stallTimer.map fun _ => u.config.stallTime } }
      let boundary := judgePitch { v with position := { v.position with
        pitchCounter := u.position.pitchCounter + 1,
        pitchTime := u.position.lastBoundary.map fun t => max 1 (min 4294967295 (u.timebase - t)),
        lastBoundary := some u.timebase } }
      u.position.backlash = 0 → u.position.sync = .synced → u.position.stepCount < 2888 →
        exec (.forwardEncoderStep e ins ord) s
            = .next (finish ((handOffOrder ord).foldl handOn (if h % 120 = 0 then boundary else v)))
          ∧ (h % 120 ≠ 0 →
            (∀ (p : PocketNo) (b : Binding), u.pockets[p].binding = some b → phaseAt h p ∉ phaseList b.phases) →
            ¬ (u.line.state = .drain ∧ pocketsEmpty u ∧ u.trail.entries = []) →
              exec (.forwardEncoderStep e ins ord) s = .next (finish v)))
  ∧ (∀ ord : List Nat, (handOffOrder ord).Perm (List.range 25)
      ∧ (orderWellFormed ord = true → ord <+: handOffOrder ord))
  ∧ (∀ (p : PocketNo) (s : State),
      pocketCrossing p 0 s = admitCrossing p s ∧ pocketCrossing p 2520 s = dischargeCrossing p s
      ∧ (∀ phase : Nat, phase ≠ 0 → phase ≠ 2520 → s.pockets[p].binding = none → pocketCrossing p phase s = s)
      ∧ (∀ b : Binding, s.pockets[p].binding = some b → (phaseList b.phases).Pairwise (· < ·) →
          (∀ x ∈ phaseList b.phases, 0 < x ∧ x < 2520) →
          pocketCrossing p b.phases.admitCheck s = admitCheckCrossing p b s
          ∧ pocketCrossing p b.phases.cupCheck s = cupCheckCrossing p s
          ∧ pocketCrossing p b.phases.seat s = seatCrossing p s
          ∧ pocketCrossing p b.phases.chargeOpen s = chargeOpenCrossing p s
          ∧ pocketCrossing p b.phases.chargeLatest s = removeWaiting p s
          ∧ pocketCrossing p b.phases.chargeClose s = chargeCloseCrossing p s
          ∧ pocketCrossing p b.phases.crimpStart s = crimpStartCrossing p b s
          ∧ pocketCrossing p b.phases.crimpMeasure s = crimpMeasureCrossing p b s
          ∧ pocketCrossing p b.phases.release s = releaseCrossing p s
          ∧ (∀ phase : Nat, phase ≠ 0 → phase ≠ 2520 → phase ∉ phaseList b.phases → pocketCrossing p phase s = s)))

/-- A reverse step at a backlash depth below 4 lowers the position by one count and leaves the high-water; the fifth count
below the high-water is a REVERSAL, whose outcome is that of the sync state. -/
def Obligations.ReverseStepTakesUpBacklashOrReverses : Prop :=
  (∀ (e : Nat) (s : State),
      let u := elapse e s
      let pc : PositionCounter := { u.position with
        standstill := false, standstillTimer := some 500, position := (u.position.position + 2879) % 2880,
        backlash := u.position.backlash + 1 }
      u.position.backlash < 4 →
        exec (.reverseEncoderStep e) s = .next (finish { u with position := pc }) ∧ highWater pc = highWater u.position)
  ∧ (∀ (e : Nat) (s : State),
      let u := elapse e s
      let pc : PositionCounter := { u.position with
        standstill := false, standstillTimer := some 500, position := (u.position.position + 2879) % 2880, backlash := 0 }
      u.position.backlash = 4 →
        (u.position.sync = .unsynced ∨ u.position.sync = .faulted →
          exec (.reverseEncoderStep e) s = .next (finish { u with position := pc }))
        ∧ (u.position.sync = .provisional →
          exec (.reverseEncoderStep e) s
            = .next (finish { u with position := { pc with sync := .unsynced, stepCount := 0 } }))
        ∧ (u.position.sync = .synced →
          exec (.reverseEncoderStep e) s = .next (finish (positionFault .reversal { u with position := pc }))))

/-- R4, Table 1.2: taken index pulses, with the pulses that R3 ignores, and the step count limit in each sync state; below
2888 STEP_COUNT_REACHES_2888 changes nothing (the model's choice, log 7). A line in STARTING whose position reaches SYNCED
enters RUN, whatever drive ready shows (the model's choice, log 17), and stays there while a channel is in service. -/
def Obligations.IndexPulseAndStepLimitActBySyncState : Prop :=
  ∀ s : State,
    let count := s.position.stepCount
    let synced : State := { s with
      position := { s.position with
        sync := .synced, position := 0, backlash := 0, stepCount := 0, pitchTime := none, lastBoundary := none,
        overspeedRun := 0, overspeedOpen := false },
      trail := { s.trail with eyeLatch := false } }
    (s.position.backlash ≠ 0 → exec .indexPulse s = .next (finish s))
    ∧ (s.position.backlash = 0 → s.position.sync = .unsynced →
        exec .indexPulse s = .next (finish { s with position := { s.position with sync := .provisional, stepCount := 0 } }))
    ∧ (s.position.backlash = 0 → s.position.sync = .faulted → exec .indexPulse s = .next (finish s))
    ∧ (s.position.backlash = 0 → s.position.sync = .provisional ∨ s.position.sync = .synced → count = 0 →
        exec .indexPulse s = .next (finish s))
    ∧ (s.position.backlash = 0 → s.position.sync = .provisional → count = 2880 → s.line.state ≠ .starting →
        exec .indexPulse s = .next (finish synced))
    ∧ (s.position.backlash = 0 → s.position.sync = .provisional → count = 2880 → s.line.state = .starting →
        exec .indexPulse s = .next (finish (enterRun .synced synced))
        ∧ (enterRun .synced synced).position.sync = .synced
        ∧ (channelsInService s ≠ 0 →
            (enterRun .synced synced).line.state = .run ∧ (enterRun .synced synced).line.runPermit = true
              ∧ (enterRun .synced synced).line.syncTimer = none))
    ∧ (s.position.backlash = 0 → s.position.sync = .provisional → count ≠ 0 → count ≠ 2880 →
        exec .indexPulse s = .next (finish { s with position := { s.position with stepCount := 0 } }))
    ∧ (s.position.backlash = 0 → s.position.sync = .synced → count = 2880 →
        exec .indexPulse s = .next (finish { s with position := { s.position with stepCount := 0 } }))
    ∧ (s.position.backlash = 0 → s.position.sync = .synced → count ≠ 0 → count ≠ 2880 →
        exec .indexPulse s = .next (finish (positionFault .indexMismatch s)))
    ∧ (count < 2888 → exec .stepCountReaches2888 s = .next (finish s))
    ∧ (2888 ≤ count → s.position.sync = .provisional →
        exec .stepCountReaches2888 s
          = .next (finish { s with position := { s.position with sync := .unsynced, stepCount := 0 } }))
    ∧ (2888 ≤ count → s.position.sync = .synced →
        exec .stepCountReaches2888 s = .next (finish (positionFault .missingIndex s)))
    ∧ (s.position.sync = .unsynced ∨ s.position.sync = .faulted → exec .stepCountReaches2888 s = .next (finish s))

/-- A position fault leaves SYNCED for FAULTED, halts a line with the run permit on, and takes every can's position: each
CAN pocket is UNKNOWN, every other pocket keeps its content (R6; R95 differs, log 34), every pocket is IDLE and unbound, one
without a can too (log 16, DEDUCED), the waiting list and the trail are empty, every jaw is open and every bell lifted, and
the gate is commanded to HOLD. -/
def Obligations.PositionFaultLosesEveryCan : Prop :=
  ∀ (cause : HaltCause) (s : State),
    let t := positionFault cause s
    t.position.sync = .faulted ∧ t.position.stepCount = 0 ∧ t.position.pitchTime = none
    ∧ t.line.state = (if permitIn s.line.state then (if s.position.standstill then .stopped else .halt) else s.line.state)
    ∧ (∀ p : PocketNo, t.pockets[p] = lostPocket s.pockets[p])
    ∧ (∀ p : PocketNo, t.crimp[p] = { bellLowered := false, jawClosed := false, stroke := none, watch := none })
    ∧ t.gas.waiting = [] ∧ t.trail.entries = [] ∧ t.trail.eyeLatch = false ∧ t.trail.gateCommand = .hold

/-- A pitch below 95 % of the ceiling is an overspeed pitch: the run rises and an episode opens with its report; any other
pitch ends both. -/
def Obligations.PitchTimeIsJudgedAgainstTheCeiling : Prop :=
  ∀ (t : Nat) (s : State), s.position.pitchTime = some t → s.line.state = .run ∨ s.line.state = .drain →
    (19 * s.position.speedCeiling ≤ 20 * t →
      (judgePitch s).position = { s.position with overspeedRun := 0, overspeedOpen := false })
    ∧ (20 * t < 19 * s.position.speedCeiling → s.position.overspeedRun < 7 →
      (judgePitch s).position
          = { s.position with overspeedRun := s.position.overspeedRun + 1, overspeedOpen := true }
        ∧ (judgePitch s).line = s.line)
    ∧ (20 * t < 19 * s.position.speedCeiling → s.position.overspeedRun = 7 →
      (judgePitch s).line.state = (if s.position.standstill then .stopped else .halt)
        ∧ (judgePitch s).position.overspeedOpen = false)

/-! ### Drive, stall and standstill -/

/-- R14 to R16: a stall timer that runs out hands STALL; drive ready lost while the permit is on hands DRIVE_FAULT, gained it
starts the stall timer, and while the permit is off it changes the input alone; the standstill timer sets the indicator, with
which a line in HALT enters STOPPED. A timer that does not run does nothing (log 2). -/
def Obligations.DriveAndStandstillEventsAct : Prop :=
  (∀ s : State,
      (s.position.stallTimer = none → exec .stallTimerExpiry s = .next (finish s))
      ∧ (s.position.stallTimer ≠ none →
          exec .stallTimerExpiry s
            = .next (finish (takeHaltCause .stall { s with position := { s.position with stallTimer := none } }))))
  ∧ (∀ (ready : Bool) (s : State), ready ≠ s.inputs.driveReady →
      let u : State := { s with inputs := { s.inputs with driveReady := ready } }
      (s.line.runPermit = false → exec (.driveReadyChange ready) s = .next (finish u))
      ∧ (s.line.runPermit = true → ready = true →
          exec (.driveReadyChange ready) s
            = .next (finish { u with position := { u.position with stallTimer := some u.config.stallTime } }))
      ∧ (s.line.runPermit = true → ready = false →
          exec (.driveReadyChange ready) s
            = .next (finish (takeHaltCause .driveFault { u with position := { u.position with stallTimer := none } }))))
  ∧ (∀ s : State,
      let u : State := { s with position := { s.position with standstillTimer := none, standstill := true } }
      (s.position.standstillTimer = none → exec .standstillTimerExpiry s = .next (finish s))
      ∧ (s.position.standstillTimer ≠ none → s.line.state ≠ .halt → exec .standstillTimerExpiry s = .next (finish u))
      ∧ (s.position.standstillTimer ≠ none → s.line.state = .halt →
          ∃ t, exec .standstillTimerExpiry s = .next t ∧ t.position.standstill = true ∧ t.position.standstillTimer = none
            ∧ t.line.state = .stopped ∧ t.line.runPermit = false ∧ t.line.haltRecord = s.line.haltRecord
            ∧ t.pockets = s.pockets ∧ t.trail = s.trail ∧ t.gas = s.gas))

/-! ### HALT -/

/-- R40, R42, R53, R78, R148, R159, R161: a halt cause taken in STARTING, RUN or DRAIN enters HALT, or STOPPED at once where
the turret already stands still. The halt record is written; the waiting list is emptied, and a pocket taken from it is
CHARGED with CHARGE_MISSED; every charge closes for HALT and its pocket is CHARGED; every can and every standing offer is
marked, and a can marked now carries HALTED; a calibration revolution ends with its jaw open, and its head, while RESEATING,
is RESEAT_PENDING; every stroke on a can ends; an ARMED changeover fails with LINE_STOP; the trail is left. In HALT a cause
other than the first joins the later causes; in STOPPED it changes nothing. -/
def Obligations.HaltCauseEntersHaltOrJoinsTheRecord : Prop :=
  (∀ (cause : HaltCause) (s : State), permitIn s.line.state = true →
      let t := takeHaltCause cause s
      t.line.state = (if s.position.standstill then .stopped else .halt)
      ∧ t.line.runPermit = false ∧ t.line.drainCause = none ∧ t.line.syncTimer = none
      ∧ t.line.haltRecord = some
          { first := cause, lineLeft := s.line.state, sync := s.position.sync, position := s.position.position,
            pitchCounter := s.position.pitchCounter, lastRequest := s.line.lastRequest, later := 0 }
      ∧ t.gas.waiting = [] ∧ t.trail = s.trail ∧ t.position.stallTimer = none ∧ t.position.overspeedOpen = (
          if s.line.state = .starting then s.position.overspeedOpen else false)
      ∧ (s.line.state = .run → t.infeedGate = false)
      ∧ (∀ c : ChannelNo,
          (s.gas.channels[c].state ≠ .charging → t.gas.channels[c] = s.gas.channels[c])
          ∧ (s.gas.channels[c].state = .charging →
              t.gas.channels[c] = { s.gas.channels[c] with
                state := .settling, valveOpen := false, noFlowTimer := none,
                lastClose := some (s.gas.channels[c].accumulated, .halt), settleTimer := some 30 }
              ∧ ∀ g, s.gas.channels[c].grant = some g → t.gas.selectors[g.pocket] = none))
      ∧ (∀ p : PocketNo,
          let k := s.pockets[p]
          let missed := k.step = .waitCharge ∧ p ∈ s.gas.waiting
          let closed := k.step = .charging
            ∧ ∃ c : ChannelNo, s.gas.channels[c].state = .charging ∧ (s.gas.channels[c].grant.map (·.pocket)) = some p
          let marks : List Reason := if k.halted then [] else [.halted]
          let late : List Reason := if missed then [.chargeMissed] else []
          t.pockets[p] = { k with
            seatWatch := false,
            step := if missed ∨ closed then .charged else if k.step = .calPass then .idle else k.step,
            halted := match k.content with
              | .can _ => true
              | _ => k.halted || decide (k.step = .offered),
            content := match k.content with
              | .can r => .can { r with reasons := addReasons r.reasons (marks ++ late) }
              | other => other })
      ∧ (∀ p : PocketNo,
          let pass := s.pockets[p].step = .calPass
          t.crimp[p] = { s.crimp[p] with
            jawClosed := if pass then false else s.crimp[p].jawClosed,
            stroke := if pass then none else s.crimp[p].stroke.filter fun st => st.kind = .calibration }
          ∧ t.heads[p] = (if pass ∧ s.heads[p].state = .reseating then { s.heads[p] with state := .reseatPending }
              else s.heads[p]))
      ∧ (∀ plan n counted, s.lots.changeover = .armed plan n counted → s.line.state ≠ .drain →
          t.lots = { s.lots with changeover := .none, lastOutcome := some (.failed .lineStop) })
      ∧ ((∀ plan n counted, s.lots.changeover ≠ .armed plan n counted) → t.lots = s.lots))
  ∧ (∀ (cause : HaltCause) (s : State),
      (s.line.state = .stopped → takeHaltCause cause s = s)
      ∧ (∀ r, s.line.state = .halt → s.line.haltRecord = some r → r.first = cause → takeHaltCause cause s = s)
      ∧ (∀ r, s.line.state = .halt → s.line.haltRecord = some r → r.first ≠ cause →
          takeHaltCause cause s = { s with line := { s.line with
            haltRecord := some { r with later := r.later ||| 1 <<< (codeHalt cause - 1) } } }))

/-! ### Gas channels -/

/-- R50, R56, R64: a mass increment in each channel state. -/
def Obligations.MeterIncrementActsByChannelState : Prop :=
  ∀ (e : Nat) (c : ChannelNo) (mg : Int) (s : State),
    let u := elapse e s
    let ch := u.gas.channels[c]
    let mass := max (-32768) (min 32767 (ch.accumulated + mg))
    let standing := max (-32768) (min 32767 (ch.standing + mg))
    (∀ g, ch.state = .charging → ch.grant = some g → mass < g.target - ch.preact →
      exec (.meterIncrement e c mg) s
        = .next (finish (setChannel c { ch with accumulated := mass, noFlowTimer := none } u)))
    ∧ (∀ g, ch.state = .charging → ch.grant = some g → g.target - ch.preact ≤ mass →
      exec (.meterIncrement e c mg) s
        = .next (finish (closeCharge c .target (setChannel c { ch with accumulated := mass, noFlowTimer := none } u))))
    ∧ (ch.state = .settling →
      exec (.meterIncrement e c mg) s
        = .next (finish (setChannel c { ch with accumulated := mass, noFlowTimer := none } u)))
    ∧ (ch.state = .tareWait ∨ ch.state = .tare →
      exec (.meterIncrement e c mg) s = .next (finish (setChannel c { ch with standing := standing } u)))
    ∧ (ch.state = .idle → creepSum ch.creepWindow + mg ≤ 20 →
      exec (.meterIncrement e c mg) s
        = .next (finish (setChannel c
            { ch with standing := standing, creepWindow := ch.creepWindow ++ [(u.timebase, mg)] } u)))
    ∧ (ch.state = .idle → 20 < creepSum ch.creepWindow + mg → u.gas.tareQueue.Nodup →
      ∃ t, exec (.meterIncrement e c mg) s = .next t ∧ t.gas.channels[c].state = .fault
        ∧ t.gas.channels[c].faultCause = some .creep ∧ t.gas.channels[c].standing = standing)
    ∧ (ch.state = .fault ∨ ch.state = .off → exec (.meterIncrement e c mg) s = .next (finish u))

/-- A grant gives the lowest-numbered IDLE channel to the head of the waiting list while the supply is OK. A close commands
valve and selector closed, stops the no-flow timer, holds mass and cause, starts the settle and moves the pocket from
CHARGING to CHARGED; it changes nothing else. -/
def Obligations.ChargesOpenByGrantAndCloseIntoSettling : Prop :=
  (∀ (p : PocketNo) (rest : List PocketNo) (c : ChannelNo) (b : Binding) (q : Recipe) (r : CanRecord) (s : State),
      s.gas.supply = .ok → s.gas.waiting = p :: rest → s.gas.channels[c].state = .idle →
      (∀ d : ChannelNo, d < c → s.gas.channels[d].state ≠ .idle) →
      s.pockets[p].step = .waitCharge → s.pockets[p].content = .can r → s.pockets[p].binding = some b →
      recipeIn b.slot s = some q →
        let ch := s.gas.channels[c]
        let charges := if ch.chargesSinceTare < 65535 then ch.chargesSinceTare + 1 else 65535
        grantOnce s = { s with
          gas := { s.gas with
            waiting := rest,
            channels := s.gas.channels.set c { ch with
              state := .charging, valveOpen := true, accumulated := 0, lastClose := none, settleError := false,
              grant := some { pocket := p, lot := r.lot, serial := r.serial, target := q.doseTarget,
                              tolerance := q.doseTolerance },
              chargesSinceTare := charges, tareDue := ch.tareDue || decide (s.config.tareIntervalCount ≤ charges),
              noFlowTimer := some 80 },
            selectors := s.gas.selectors.set p (some c) },
          pockets := s.pockets.set p { s.pockets[p] with step := .charging, content := .can { r with channel := some c } } })
  ∧ (∀ (c : ChannelNo) (cause : CloseCause) (g : Grant) (s : State), s.gas.channels[c].grant = some g →
      let ch := s.gas.channels[c]
      let k := s.pockets[g.pocket]
      closeCharge c cause s = { s with
        gas := { s.gas with
          channels := s.gas.channels.set c { ch with
            state := .settling, valveOpen := false, noFlowTimer := none, lastClose := some (ch.accumulated, cause),
            settleTimer := some 30 },
          selectors := s.gas.selectors.set g.pocket none },
        pockets := if k.step = .charging then s.pockets.set g.pocket { k with step := .charged } else s.pockets })

/-- R55: a meter error in each channel state. R51: a no-flow timer that runs out in CHARGING closes the charge with cause
NO_FLOW; a stopped one, or one of a channel that is not CHARGING, does nothing (log 2, DEDUCED). -/
def Obligations.MeterErrorAndNoFlowActByChannelState : Prop :=
  (∀ (c : ChannelNo) (s : State),
      let ch := s.gas.channels[c]
      (ch.state = .charging → exec (.meterError c) s = .next (finish (closeCharge c .meter s)))
      ∧ (ch.state = .settling →
          exec (.meterError c) s = .next (finish (setChannel c { ch with settleError := true } s)))
      ∧ (ch.state = .idle ∨ ch.state = .tareWait ∨ ch.state = .tare → s.gas.tareQueue.Nodup →
          ∃ t, exec (.meterError c) s = .next t ∧ t.gas.channels[c].state = .fault
            ∧ t.gas.channels[c].faultCause = some .meter ∧ t.gas.channels[c].offPending = false
            ∧ t.gas.channels[c].tareTimer = none ∧ t.gas.tareQueue = s.gas.tareQueue.erase c)
      ∧ (ch.state = .fault ∨ ch.state = .off → exec (.meterError c) s = .next (finish s)))
  ∧ (∀ (c : ChannelNo) (s : State),
      (s.gas.channels[c].noFlowTimer ≠ none → s.gas.channels[c].state = .charging →
        exec (.noFlowTimerExpiry c) s = .next (finish (closeCharge c .noFlow s)))
      ∧ (s.gas.channels[c].noFlowTimer = none ∨ s.gas.channels[c].state ≠ .charging →
        exec (.noFlowTimerExpiry c) s = .next (finish s)))

/-- R56 to R60: the settle of a charge ends. The preact follows the tail after TARGET alone, the run of out-of-band doses
follows Table 3.4, the can of the grant takes the dose and exactly the reasons of Table 3.4, a result whose can is no longer
in the pocket is discarded (R38), and the channel goes to its destination. -/
def Obligations.SettleEndDerivesTheDoseResult : Prop :=
  ∀ (c : ChannelNo) (g : Grant) (mass : Int) (cause : CloseCause) (s : State),
    let ch := s.gas.channels[c]
    let dose := ch.accumulated
    let low := dose < g.target - g.tolerance
    let high := (g.target : Int) + g.tolerance < dose
    let counts := (cause = .target ∨ cause = .forced) ∧ ch.settleError = false
    let measured := cause ≠ .noFlow ∧ cause ≠ .meter ∧ ch.settleError = false
    let run := if counts then (if low ∨ high then min 3 (ch.outOfBand + 1) else 0) else ch.outOfBand
    let band : List Reason := if ¬ measured then [.doseUnmeasured] else if low then [.doseUnder] else if high then [.doseOver]
      else []
    let aborted : List Reason := if cause = .halt then [.chargeAborted] else []
    ch.state = .settling → ch.settleTimer ≠ none → ch.grant = some g → ch.lastClose = some (mass, cause) →
    s.gas.tareQueue.Nodup →
      ∃ t, exec (.settleTimerExpiry c) s = .next t
        ∧ t.gas.channels[c].preact
            = (if cause = .target ∧ ch.settleError = false then max 0 (min 2000 ((3 * ch.preact + (dose - mass)) / 4))
              else ch.preact)
        ∧ t.gas.channels[c].outOfBand = run
        ∧ (∀ r, s.pockets[g.pocket].content = .can r → r.lot = g.lot → r.serial = g.serial →
            ∃ r', t.pockets[g.pocket].content = .can r'
              ∧ { r' with channel := r.channel }
                  = { r with dose := some dose, reasons := addReasons r.reasons (band ++ aborted) })
        ∧ ((∀ r, s.pockets[g.pocket].content = .can r → r.lot ≠ g.lot ∨ r.serial ≠ g.serial) →
            s.gas.waiting = [] ∨ s.gas.supply = .low →
            ∀ p : PocketNo, t.pockets[p].content = s.pockets[p].content)
        ∧ (cause = .noFlow → t.gas.channels[c].state = .fault ∧ t.gas.channels[c].faultCause = some .noFlow)
        ∧ (cause = .meter ∨ cause ≠ .noFlow ∧ ch.settleError = true →
            t.gas.channels[c].state = .fault ∧ t.gas.channels[c].faultCause = some .meter)
        ∧ (counts → low ∨ high → 2 ≤ ch.outOfBand →
            t.gas.channels[c].state = .fault ∧ t.gas.channels[c].faultCause = some .doseRun)
        ∧ (measured → ¬ (counts ∧ (low ∨ high) ∧ 2 ≤ ch.outOfBand) →
            (ch.offPending = true → t.gas.channels[c].state = .off)
            ∧ (ch.offPending = false → ch.tareDue = true →
                t.gas.channels[c].state = .tareWait ∨ t.gas.channels[c].state = .tare)
            ∧ (ch.offPending = false → ch.tareDue = false → s.gas.waiting = [] ∨ s.gas.supply = .low →
                t.gas.channels[c].state = .idle ∧ t.gas.channels[c].grant = none))

/-- R63: the tare ends: the standing reading becomes the zero offset, and a magnitude above 300 mg is a DRIFT. R61: time
since tare reaches its interval: an IDLE channel joins the tare queue, a CHARGING or SETTLING one only becomes due, and in
the states in which the clock stands still nothing happens (log 30). -/
def Obligations.TaresEndAndFallDue : Prop :=
  (∀ (c : ChannelNo) (s : State),
      let ch := s.gas.channels[c]
      ch.state = .tare → ch.tareTimer ≠ none → s.gas.tareQueue.Nodup →
        ∃ t, exec (.tareTimerExpiry c) s = .next t ∧ t.gas.channels[c].zeroOffset = ch.standing
          ∧ t.gas.channels[c].standing = 0 ∧ t.gas.channels[c].timeSinceTare = 0 ∧ c ∉ t.gas.tareQueue
          ∧ (300 < ch.standing.natAbs →
              t.gas.channels[c].state = .fault ∧ t.gas.channels[c].faultCause = some .drift)
          ∧ (ch.standing.natAbs ≤ 300 → ch.offPending = true → t.gas.channels[c].state = .off)
          ∧ (ch.standing.natAbs ≤ 300 → ch.offPending = false → s.gas.waiting = [] ∨ s.gas.supply = .low →
              t.gas.channels[c].state = .idle ∧ t.gas.channels[c].chargesSinceTare = 0
                ∧ t.gas.channels[c].tareDue = false))
  ∧ (∀ (c : ChannelNo) (s : State),
      let ch := s.gas.channels[c]
      let due : Channel := { ch with
        timeSinceTare := max ch.timeSinceTare (s.config.tareIntervalTime * 1000000), tareDue := true }
      (ch.state = .charging ∨ ch.state = .settling →
        exec (.tareIntervalTimeReached c) s = .next (finish (setChannel c due s)))
      ∧ (ch.state = .idle →
          ∃ t, exec (.tareIntervalTimeReached c) s = .next t ∧ t.gas.channels[c].tareDue = true
            ∧ t.gas.tareQueue = (if c ∈ s.gas.tareQueue then s.gas.tareQueue else s.gas.tareQueue ++ [c])
            ∧ (t.gas.channels[c].state = .tareWait ∨ t.gas.channels[c].state = .tare))
      ∧ (ch.state = .tareWait ∨ ch.state = .tare ∨ ch.state = .fault ∨ ch.state = .off →
          exec (.tareIntervalTimeReached c) s = .next (finish s)))

/-- R65: the supply state follows the pressure and the minimum in force. -/
def Obligations.SupplyStateFollowsThePressure : Prop :=
  ∀ (kPa : Word16) (s : State),
    ∃ t, exec (.supplyPressureChange kPa) s = .next t ∧ t.inputs = { s.inputs with pressure := kPa }
      ∧ t.gas.minInForce = s.gas.minInForce
      ∧ (∀ m, s.gas.supply = .ok → s.gas.minInForce = some m → kPa.toNat < m → t.gas.supply = .low)
      ∧ (∀ m, s.gas.supply = .ok → s.gas.minInForce = some m → m ≤ kPa.toNat → t.gas.supply = .ok)
      ∧ (s.gas.minInForce = none → t.gas.supply = .ok)
      ∧ (∀ m, s.gas.supply = .low → s.gas.minInForce = some m → m + 100 ≤ kPa.toNat → t.gas.supply = .ok)
      ∧ (∀ m, s.gas.supply = .low → s.gas.minInForce = some m → kPa.toNat < m + 100 → t.gas.supply = .low)

/-! ### Heads between crossings -/

/-- R27: bell closed becoming active while the seat watch is open seats the pocket and closes the watch. R80: bell open
becoming active closes the bell-open watch. Any other level changes the input alone. -/
def Obligations.BellInputsSeatAndCloseTheWatch : Prop :=
  (∀ (p : PocketNo) (active : Bool) (s : State),
      let u : State := { s with inputs := { s.inputs with bellClosed := s.inputs.bellClosed.set p active } }
      (active = true → s.inputs.bellClosed[p] = false → s.pockets[p].seatWatch = true →
        exec (.bellClosedInput p active) s
          = .next (finish (setPocket p { s.pockets[p] with
              step := if s.pockets[p].step = .cupped then .seated else s.pockets[p].step, seatWatch := false } u)))
      ∧ (active = false ∨ s.inputs.bellClosed[p] = true ∨ s.pockets[p].seatWatch = false →
        exec (.bellClosedInput p active) s = .next (finish u)))
  ∧ (∀ (p : PocketNo) (active : Bool) (s : State),
      let u : State := { s with inputs := { s.inputs with bellOpen := s.inputs.bellOpen.set p active } }
      (active = true → s.inputs.bellOpen[p] = false →
        exec (.bellOpenInput p active) s = .next (finish (setCrimp p { s.crimp[p] with watch := none } u)))
      ∧ (active = false ∨ s.inputs.bellOpen[p] = true → exec (.bellOpenInput p active) s = .next (finish u)))

/-- R74, R75: jaw closed becoming active closes a WAITING stroke in CONFIRMED mode, and a can in the pocket takes the phase
at the high-water; in TIMED mode, and in CLOSED or TIMED_OUT, it does nothing. The jaw timer of a WAITING stroke runs out:
TIMED_OUT with JAW_TIMEOUT in CONFIRMED mode, CLOSED in TIMED mode. R76: while the capture is open the peak takes every
reading above it, held to 0 to 65535 N; without one a reading changes nothing. -/
def Obligations.JawEventsMoveTheStroke : Prop :=
  (∀ (p : PocketNo) (active : Bool) (s : State),
      let u : State := { s with inputs := { s.inputs with jawClosed := s.inputs.jawClosed.set p active } }
      let v := fun (st : Stroke) =>
        setCrimp p { s.crimp[p] with stroke := some { st with condition := .closed, jawTimer := none } } u
      (active = false ∨ s.inputs.jawClosed[p] = true ∨ s.crimp[p].stroke = none →
        exec (.jawClosedInput p active) s = .next (finish u))
      ∧ (∀ st, s.crimp[p].stroke = some st → st.jawMode = .timed ∨ st.condition ≠ .waiting →
          exec (.jawClosedInput p active) s = .next (finish u))
      ∧ (∀ st, active = true → s.inputs.jawClosed[p] = false → s.crimp[p].stroke = some st → st.jawMode = .confirmed →
          st.condition = .waiting → st.kind = .calibration →
          exec (.jawClosedInput p active) s = .next (finish (v st)))
      ∧ (∀ st r, active = true → s.inputs.jawClosed[p] = false → s.crimp[p].stroke = some st → st.jawMode = .confirmed →
          st.condition = .waiting → st.kind = .can (canId r) → s.pockets[p].content = .can r →
          exec (.jawClosedInput p active) s
            = .next (finish (setPocket p { s.pockets[p] with
                content := .can { r with jawClosePhase := some (phaseAt (highWater s.position) p) } } (v st)))))
  ∧ (∀ (p : PocketNo) (st : Stroke) (s : State), s.crimp[p].stroke = some st → st.jawTimer ≠ none →
      st.condition = .waiting →
      let closed := setCrimp p { s.crimp[p] with stroke := some { st with condition := .closed, jawTimer := none } } s
      let out := setCrimp p { s.crimp[p] with stroke := some { st with condition := .timedOut, jawTimer := none } } s
      (st.jawMode = .timed → exec (.jawTimerExpiry p) s = .next (finish closed))
      ∧ (st.jawMode = .confirmed → st.kind = .calibration → exec (.jawTimerExpiry p) s = .next (finish out))
      ∧ (∀ r, st.jawMode = .confirmed → st.kind = .can (canId r) → s.pockets[p].content = .can r →
          exec (.jawTimerExpiry p) s
            = .next (finish (setPocket p { s.pockets[p] with
                content := .can { r with reasons := addReason r.reasons .jawTimeout } } out))))
  ∧ (∀ (p : PocketNo) (n : Int) (s : State),
      (∀ st peak, s.crimp[p].stroke = some st → st.capture = some peak →
        exec (.jawForceReading p n) s = .next (finish (setCrimp p
          { s.crimp[p] with stroke := some { st with capture := some (max peak (min 65535 n.toNat)) } } s)))
      ∧ (s.crimp[p].stroke = none ∨ (∃ st, s.crimp[p].stroke = some st ∧ st.capture = none) →
        exec (.jawForceReading p n) s = .next (finish s)))

/-! ### Station crossings -/

/-- R19 to R23, R126, R140: at ADMIT a pocket is offered a can exactly when the line is RUN, the position SYNCED, the pocket
EMPTY, its head IN_SERVICE or PROBATION and the trace buffer, asked where the others hold, has space; otherwise the infeed
gate is closed. An offer is bound to the current lot as the lot register leaves it and stands in its count; an empty pass is
bound to the current lot and counts nothing; with no lot there is no binding. A query that withholds with the admission-held
flag clear sets it, one that grants with it set clears it, and each sends its report. R24, R25, R141, R146: at admit check an
OFFERED pocket takes the can it sees, with the lot's next serial, the open overspeed episode and its own mark in the record,
and the lot counts it; with no can seen it is IDLE and unmarked, the offer no longer stands, and a counted offer is given
back. A lot count at its top, whose next value is free, is left to log 11. -/
def Obligations.AdmitOffersToFitPocketsAndAdmitCheckTakesTheCan : Prop :=
  (∀ (p : PocketNo) (s : State), s.pockets[p].step = .idle →
    let k := s.pockets[p]
    let asked : Bool := s.line.state = .run && s.position.sync = .synced && k.content = .empty
      && (s.heads[p].state = .inService || s.heads[p].state = .probation)
    let fill := s.trace.records.length
    let flight := cansInFlight s
    let offered := offeredPockets s
    let space : Bool := fill + flight + offered + 1 ≤ 128
    let u : State :=
      if asked && s.trace.admissionHeld == space then
        sendReport (.admissionHeld (!space) fill flight offered)
          { s with trace := { s.trace with admissionHeld := !space } }
      else s
    let bound := fun (lot : Option LotRecord) => lot.bind fun l => (recipeIn l.slot s).map fun q =>
      ({ slot := l.slot, generation := generationOf l.slot s, lot := l.lot, phases := q.phases, jawMode := q.jawMode,
         jawTime := q.jawTime } : Binding)
    let reseats := s.heads[p].state = .reseatPending ∧ (s.line.state = .run ∨ s.line.state = .drain) ∧ k.content = .empty
    let t := pocketCrossing p 0 s
    (asked = true → space = true →
      t.pockets[p] = { k with step := .offered, binding := bound t.lots.current } ∧ t.infeedGate = true
      ∧ t.lots = (offerLot p s).lots ∧ t.trace = u.trace
      ∧ ((∀ plan n counted, s.lots.changeover ≠ .armed plan n counted) →
          t = setPocket p { k with step := .offered, binding := bound s.lots.current } { u with
            infeedGate := true,
            lots := { s.lots with current := s.lots.current.map fun l => { l with offers := l.offers + 1 } } }))
    ∧ (asked = false ∨ space = false →
      (¬ reseats → t = setPocket p { k with binding := bound s.lots.current } { u with infeedGate := false })
      ∧ (reseats → t.pockets[p] = { k with step := .calPass, binding := bound s.lots.current }
          ∧ t.heads[p].state = .reseating ∧ t.infeedGate = false ∧ t.lots = s.lots ∧ t.trace = s.trace)))
  ∧ (∀ (p : PocketNo) (b : Binding) (s : State),
      let k := s.pockets[p]
      let t := admitCheckCrossing p b s
      (k.step ≠ .offered → t = s)
      ∧ (∀ l, k.step = .offered → s.inputs.canPresent[p] = true → openLot b.lot s = some l → l.admitted < 4294967295 →
          let episode : List Reason := if s.position.overspeedOpen then [.overspeed] else []
          let mark : List Reason := if k.halted then [.halted] else []
          let taken : Pocket := { k with
            step := .loaded,
            content := .can
              { lot := b.lot, serial := l.admitted + 1, pocket := p, slot := b.slot, generation := b.generation,
                reasons := addReasons 0 (episode ++ mark),
                channel := none, dose := none, height := none, peakForce := none, jawClosePhase := none,
                overspeed := s.position.overspeedOpen } }
          t.pockets[p] = taken
          ∧ openLot b.lot t
              = some { l with admitted := l.admitted + 1, inFlight := l.inFlight + 1, offers := l.offers - 1 }
          ∧ (s.lots.closing = none ∨ (∃ q, s.lots.closing = some q ∧ q.lot ≠ b.lot) →
              t = setPocket p taken { s with lots := t.lots } ∧ t.lots.closing = s.lots.closing
              ∧ ∀ plan n counted, s.lots.changeover = .armed plan n counted →
                  t.lots.changeover = .armed plan n (counted.set p false)))
      ∧ (∀ l, k.step = .offered → s.inputs.canPresent[p] = false → openLot b.lot s = some l →
          t.pockets[p] = { k with step := .idle, halted := false }
          ∧ (s.lots.closing = none ∨ (∃ q, s.lots.closing = some q ∧ q.lot ≠ b.lot) →
              t = setPocket p { k with step := .idle, halted := false } { s with lots := t.lots }
              ∧ openLot b.lot t = some { l with offers := l.offers - 1 } ∧ t.lots.closing = s.lots.closing
              ∧ ∀ plan n counted, s.lots.changeover = .armed plan n counted →
                  t.lots.changeover = .armed plan (if counted[p] then n + 1 else n) (counted.set p false))))

/-- R26 to R28: cup check, seat and charge open act on a pocket whose halted mark is clear, by its step. R47: at charge latest
a waiting pocket leaves the list, CHARGED with CHARGE_MISSED. R52: at charge close the channel that charges for the pocket
closes with cause FORCED. -/
def Obligations.CupSeatAndChargeCrossingsActByStep : Prop :=
  ∀ (p : PocketNo) (r : CanRecord) (s : State),
    let k := s.pockets[p]
    let charges := fun (c : ChannelNo) =>
      s.gas.channels[c].state = .charging ∧ (s.gas.channels[c].grant.map (·.pocket)) = some p
    k.content = .can r →
    (k.halted = true ∨ k.step ≠ .loaded → cupCheckCrossing p s = s)
    ∧ (k.halted = false → k.step = .loaded → s.inputs.cupPresent[p] = true →
        cupCheckCrossing p s = setPocket p { k with step := .cupped } s)
    ∧ (k.halted = false → k.step = .loaded → s.inputs.cupPresent[p] = false →
        cupCheckCrossing p s = setPocket p { k with content := .can { r with reasons := addReason r.reasons .noCup } } s)
    ∧ (k.halted = true ∨ k.step ≠ .cupped → seatCrossing p s = s)
    ∧ (k.halted = false → k.step = .cupped →
        seatCrossing p s = setCrimp p { s.crimp[p] with bellLowered := true }
          (setPocket p (if s.inputs.bellClosed[p] then { k with step := .seated, seatWatch := false }
            else { k with seatWatch := true }) s))
    ∧ (k.halted = false → k.step = .cupped →
        chargeOpenCrossing p s = setPocket p
          { k with seatWatch := false, content := .can { r with reasons := addReason r.reasons .seatFail } } s)
    ∧ (k.halted = true ∨ (k.step ≠ .cupped ∧ k.step ≠ .seated) →
        chargeOpenCrossing p s = setPocket p { k with seatWatch := false } s)
    ∧ (k.halted = false → k.step = .seated → s.line.state = .run ∨ s.line.state = .drain → p ∉ s.gas.waiting →
        (∀ c : ChannelNo, s.gas.channels[c].state ≠ .idle) →
        chargeOpenCrossing p s = setPocket p { k with seatWatch := false, step := .waitCharge }
          { s with gas := { s.gas with waiting := s.gas.waiting ++ [p] } })
    ∧ (k.halted = false → k.step = .seated → s.line.state ≠ .run → s.line.state ≠ .drain →
        chargeOpenCrossing p s = setPocket p { k with
          seatWatch := false, step := .charged, content := .can { r with reasons := addReason r.reasons .chargeMissed } } s)
    ∧ (p ∉ s.gas.waiting → removeWaiting p s = s)
    ∧ (p ∈ s.gas.waiting → k.step = .waitCharge →
        removeWaiting p s = setPocket p
          { k with step := .charged, content := .can { r with reasons := addReason r.reasons .chargeMissed } }
          { s with gas := { s.gas with waiting := s.gas.waiting.erase p } })
    ∧ ((∀ c, ¬ charges c) → chargeCloseCrossing p s = s)
    ∧ (∀ c, charges c → (∀ d, d ≠ c → ¬ charges d) → chargeCloseCrossing p s = closeCharge c .forced s)

/-- R72 to R74, R82: at crimp start a CHARGED can whose mark is clear and whose cup is seen gets a stroke, its jaw closed and
its pocket CRIMPING; where the jaw-closed input is already active in CONFIRMED mode the stroke is CLOSED at once and the can
takes the phase. Without the cup it gets HEIGHT_LOW and FORCE_LOW and no stroke. A CAL_PASS pocket gets a calibration
stroke. R41: a halted pocket does not act at either crossing. R77: the crimp measure ends the stroke: height against zero offset and height band, peak against force band, and
JAW_LATE while the jaw is still WAITING. A height that the spec gives no value for is a free one (log 10). -/
def Obligations.CrimpStartOpensTheStrokeAndMeasureJudgesIt : Prop :=
  (∀ (p : PocketNo) (b : Binding) (s : State),
      let k := s.pockets[p]
      let already := b.jawMode = .confirmed ∧ s.inputs.jawClosed[p] = true
      let opened := fun (kind : StrokeKind) (capture : Option Nat) =>
        setCrimp p { s.crimp[p] with
          jawClosed := true,
          stroke := some { kind := kind, jawMode := b.jawMode, jawTime := b.jawTime,
                           condition := if already then .closed else .waiting,
                           jawTimer := if already then none else some b.jawTime, capture := capture } } s
      (∀ r, k.step = .charged → k.halted = false → k.content = .can r → s.inputs.cupPresent[p] = true →
        crimpStartCrossing p b s = setPocket p
          { k with
            step := .crimping,
            content := .can (if already then { r with jawClosePhase := some b.phases.crimpStart } else r) }
          (opened (.can (canId r)) (some 0)))
      ∧ (∀ r, k.step = .charged → k.halted = false → k.content = .can r → s.inputs.cupPresent[p] = false →
        crimpStartCrossing p b s
          = setPocket p { k with content := .can { r with reasons := addReasons r.reasons [.heightLow, .forceLow] } } s)
      ∧ (k.step = .calPass → k.halted = false → crimpStartCrossing p b s = opened .calibration none)
      ∧ ((k.step ≠ .charged ∧ k.step ≠ .calPass) ∨ k.halted = true → crimpStartCrossing p b s = s))
  ∧ (∀ (p : PocketNo) (b : Binding) (s : State),
      let k := s.pockets[p]
      s.crimp[p].stroke = none ∨ (k.step ≠ .crimping ∧ k.step ≠ .calPass) ∨ k.halted = true →
        crimpMeasureCrossing p b s = s)
  ∧ ∀ (p : PocketNo) (b : Binding) (st : Stroke) (q : Recipe) (r : CanRecord) (peak : Nat) (s : State),
    s.crimp[p].stroke = some st → st.kind = .can (canId r) → st.capture = some peak →
    s.pockets[p].step = .crimping → s.pockets[p].halted = false → s.pockets[p].content = .can r →
    recipeIn b.slot s = some q →
      let raw := s.inputs.displacement[p].toInt
      let exact : Int := raw - s.heads[p].zeroOffset
      let height := crimpHeight raw s.heads[p].zeroOffset s.freeIx
      let reasons := (if st.condition = .waiting then [Reason.jawLate] else [])
        ++ (if height < q.heightLow then [.heightLow] else if (q.heightHigh : Int) < height then [.heightHigh] else [])
        ++ (if peak < q.forceLow then [.forceLow] else if q.forceHigh < peak then [.forceHigh] else [])
      (-32768 ≤ exact → exact ≤ 32767 → height = exact)
      ∧ (crimpMeasureCrossing p b s).crimp[p].stroke = none
      ∧ (crimpMeasureCrossing p b s).pockets[p] = { s.pockets[p] with
          step := .crimped,
          content := .can { r with height := some height, peakForce := some peak,
                                   reasons := addReasons r.reasons reasons } }

/-- R31, R32, R79: the release opens jaw and lifts bell of a can, whatever its step and halted mark, and watches the bell; the
verdict point is taken by a can whose mark is clear. R88 to R92, R97 to R99: the head takes last can, tallies and consecutive
count, and then its state moves: IN_SERVICE to RESEAT_PENDING at the threshold; PROBATION back to IN_SERVICE with its last
clean can, or with a class to RETIRED, or OUT by overflow where the table is full; a retirement that takes the count above L
drains a running line; other states stay. A CAL_PASS pocket has its jaw opened; an EMPTY or UNKNOWN pocket in another step
gets no command. -/
def Obligations.ReleaseFreesTheCanAndTakesItsVerdict : Prop :=
  ∀ (p : PocketNo) (s : State),
    let t := releaseCrossing p s
    ((∀ r, s.pockets[p].content ≠ .can r) → s.pockets[p].step = .calPass →
      t = setCrimp p { s.crimp[p] with jawClosed := false } s)
    ∧ ((∀ r, s.pockets[p].content ≠ .can r) → s.pockets[p].step ≠ .calPass → t = s)
    ∧ ∀ r : CanRecord, s.pockets[p].content = .can r →
    t.pockets[p].step = .released ∧ t.pockets[p].content = .can r
    ∧ t.crimp[p].jawClosed = false ∧ t.crimp[p].bellLowered = false
    ∧ t.crimp[p].watch = (if s.inputs.bellOpen[p] then none else some (canId r))
    ∧ (s.pockets[p].halted = true → t.heads = s.heads)
    ∧ (s.pockets[p].halted = false →
        let faulty := anyClass (faultClasses r.reasons) = true
        let classes := faultClasses r.reasons
        let n := s.heads[p].tallies
        let counted : Head := { s.heads[p] with
          lastCan := some (canId r),
          tallies := { n with
            seat := if classes.seat then min 65535 (n.seat + 1) else n.seat,
            dose := if classes.dose then min 65535 (n.dose + 1) else n.dose,
            crimp := if classes.crimp then min 65535 (n.crimp + 1) else n.crimp,
            jaw := if classes.jaw then min 65535 (n.jaw + 1) else n.jaw },
          consecutive := if faulty then min 255 (s.heads[p].consecutive + 1) else 0 }
        (∀ q : PocketNo, q ≠ p → t.heads[q] = s.heads[q])
        ∧ (s.heads[p].state = .inService →
            t.heads[p] = (if s.config.reseatThreshold ≤ counted.consecutive then { counted with state := .reseatPending }
              else counted))
        ∧ (s.heads[p].state = .probation → ¬ faulty → 1 < s.heads[p].remainder →
            t.heads[p] = { counted with remainder := s.heads[p].remainder - 1 })
        ∧ (s.heads[p].state = .probation → ¬ faulty → s.heads[p].remainder ≤ 1 →
            t.heads[p] = { counted with remainder := 0, state := .inService, consecutive := 0 })
        ∧ (s.heads[p].state = .probation → faulty → s.retirements.length ≤ s.config.retirementLimit →
            t.heads[p] = { counted with state := .retired, cause := some .threshold, overflow := false, remainder := 0 }
            ∧ t.retirements = s.retirements ++ [{ pocket := p, cause := .threshold, lastCan := some (canId r) }]
            ∧ (s.line.state = .run → s.retirements.length = s.config.retirementLimit →
                t.line.state = .drain ∧ t.line.drainCause = some .retirementLimit)
            ∧ (s.retirements.length < s.config.retirementLimit → t.line = s.line))
        ∧ (s.heads[p].state = .probation → faulty → s.config.retirementLimit < s.retirements.length →
            t.heads[p] = { counted with state := .out, cause := some .threshold, overflow := true, remainder := 0 }
            ∧ t.retirements = s.retirements ∧ t.line = s.line)
        ∧ (s.heads[p].state ≠ .inService → s.heads[p].state ≠ .probation → t.heads[p] = counted)
        ∧ (s.heads[p].state ≠ .probation → t.retirements = s.retirements ∧ t.line = s.line))

/-- R33, R34: at DISCHARGE with the bell-open watch closed, RUN and DRAIN hand a CAN or UNKNOWN pocket to the trail as one
entry and leave it EMPTY; in the other line states a CAN is given up and leaves the pocket UNKNOWN. R35, R81, R96: with the
watch open the head is stuck: the watch closes, HEAD_STUCK is sent, the can is given up and counted lost with no entry in the
trail, the head takes last can and STUCK tally and is RETIRED, or OUT by overflow where the table is full, a head already
RETIRED changing its cause and its entry's, and line control takes HEAD_STUCK, in every line state. -/
def Obligations.DischargeHandsOnGivesUpOrFindsTheBellStuck : Prop :=
  (∀ (p : PocketNo) (s : State), s.crimp[p].watch = none →
    let t := dischargeCrossing p s
    let entry := fun kind => ({ kind := kind, dischargePitch := s.position.pitchCounter, weight := none, lane := none } : TrailEntry)
    (∀ r, s.line.state = .run ∨ s.line.state = .drain → s.pockets[p].content = .can r →
      t = setPocket p (clearedPocket .empty) { s with trail := { s.trail with
        entries := s.trail.entries ++ [entry (.real r)] } })
    ∧ (s.line.state = .run ∨ s.line.state = .drain → s.pockets[p].content = .unknown →
      t = setPocket p (clearedPocket .empty) { s with trail := { s.trail with
        entries := s.trail.entries ++ [entry (.purge p (reasonBit .purge))] } })
    ∧ (s.line.state = .run ∨ s.line.state = .drain → s.pockets[p].content = .empty →
      t = setPocket p (clearedPocket .empty) s)
    ∧ (∀ r, s.line.state = .stopped ∨ s.line.state = .starting ∨ s.line.state = .halt →
        s.pockets[p].content = .can r → t = countLost r.lot (setPocket p (clearedPocket .unknown) s))
    ∧ (s.line.state = .stopped ∨ s.line.state = .starting ∨ s.line.state = .halt →
        (∀ r, s.pockets[p].content ≠ .can r) → t = setPocket p (clearedPocket s.pockets[p].content) s))
  ∧ (∀ (p : PocketNo) (id : CanId) (r : CanRecord) (s : State), s.crimp[p].watch = some id →
      s.pockets[p].content = .can r →
    let t := dischargeCrossing p s
    let given := countLost r.lot (setPocket p (clearedPocket .unknown)
      (sendReport (.headStuck p id s.line.state) (setCrimp p { s.crimp[p] with watch := none } s)))
    let h : Head := { s.heads[p] with
      lastCan := some id,
      tallies := { s.heads[p].tallies with stuck := min 65535 (s.heads[p].tallies.stuck + 1) } }
    let full := s.config.retirementLimit + 1 ≤ s.retirements.length ∨ s.heads[p].state = .retired
      ∨ s.heads[p].state = .reseating
    t = handLimit full (takeHaltCause .headStuck (stuckHead p id given))
    ∧ t.crimp[p].watch = none ∧ t.pockets[p] = clearedPocket .unknown ∧ t.trail = s.trail
    ∧ (permitIn s.line.state = true →
        t.line.state = (if s.position.standstill then .stopped else .halt)
        ∧ (t.line.haltRecord.map (·.first)) = some .headStuck)
    ∧ (∀ l, s.lots.closing = none → openLot r.lot s = some l → l.lost < 4294967295 →
        openLot r.lot t = some { l with lost := l.lost + 1, inFlight := l.inFlight - 1 })
    ∧ (s.heads[p].state ≠ .retired → s.heads[p].state ≠ .reseating →
        (s.retirements.length ≤ s.config.retirementLimit →
          t.heads[p] = { h with state := .retired, cause := some .stuck, overflow := false, remainder := 0 }
          ∧ t.retirements = s.retirements ++ [{ pocket := p, cause := .stuck, lastCan := some id }])
        ∧ (s.config.retirementLimit < s.retirements.length →
          t.heads[p] = { h with state := .out, cause := some .stuck, overflow := true, remainder := 0 }
          ∧ t.retirements = s.retirements))
    ∧ (s.heads[p].state = .retired →
        t.heads[p] = { h with cause := some .stuck }
        ∧ t.retirements = s.retirements.map fun q => if q.pocket = p then { q with cause := .stuck } else q))

/-- R83: the crimp measure of a CAL_PASS pocket ends its calibration stroke and hands over the raw displacement where the jaw
is CLOSED, and no candidate otherwise. R94: a candidate within the limit becomes the zero offset and opens probation; an
absent one or one beyond the limit retires the head, or sends it OUT where the table is full; a head not RESEATING discards
it. -/
def Obligations.CalibrationCandidateIsMeasuredAndDecided : Prop :=
  (∀ (p : PocketNo) (b : Binding) (st : Stroke) (s : State), s.crimp[p].stroke = some st → st.kind = .calibration →
      s.pockets[p].step = .calPass → s.pockets[p].halted = false →
      crimpMeasureCrossing p b s
        = decideCalibration p (if st.condition = .closed then some s.inputs.displacement[p].toInt else none)
            (setCrimp p { s.crimp[p] with stroke := none } s))
  ∧ ∀ (p : PocketNo) (candidate : Option Int) (s : State),
    let t := decideCalibration p candidate s
    (s.heads[p].state ≠ .reseating → t = s)
    ∧ (∀ n : Int, candidate = some n → n.natAbs ≤ s.config.calibrationLimit → s.heads[p].state = .reseating →
        t.heads[p] = { s.heads[p] with zeroOffset := n, remainder := s.config.probationCount, state := .probation })
    ∧ ((candidate = none ∨ ∃ n : Int, candidate = some n ∧ s.config.calibrationLimit < n.natAbs) →
        s.heads[p].state = .reseating →
        t.heads[p].zeroOffset = s.heads[p].zeroOffset ∧ t.heads[p].cause = some .cal
        ∧ t.heads[p].tallies = { s.heads[p].tallies with cal := min 65535 (s.heads[p].tallies.cal + 1) }
        ∧ (s.retirements.length ≤ s.config.retirementLimit →
            t.heads[p].state = .retired
              ∧ t.retirements = s.retirements ++ [{ pocket := p, cause := .cal, lastCan := s.heads[p].lastCan }])
        ∧ (s.config.retirementLimit < s.retirements.length →
            t.heads[p].state = .out ∧ t.heads[p].overflow = true ∧ t.retirements = s.retirements))

/-! ### Trail, gate and trace buffer -/

/-- R112 to R115: a weigher record goes to the oldest entry that has passed the weigher and has no weight; with none it is an
orphan, and every entry in the trail gets TRACK_LOST; with W at 0 it is discarded. A can that is not yet commanded takes
WEIGHT_LOW, WEIGHT_HIGH or, for NO_READING, WEIGHT_MISSING by the weight band of its recipe, and nothing without a band. An entry is named by its discharge pitch,
which no two entries share (R109). -/
def Obligations.WeigherRecordGoesToTheOldestEligibleEntry : Prop :=
  ∀ (reading : Option Word16) (s : State),
    let passed := fun (e : TrailEntry) =>
      decide (s.config.weigherDistance ≤ (s.position.pitchCounter - e.dischargePitch).toNat) && e.weight.isNone
    (s.config.weigherDistance = 0 → exec (.weigherRecord reading) s = .next (finish s))
    ∧ (s.config.weigherDistance ≠ 0 → (∀ e ∈ s.trail.entries, passed e = false) →
        exec (.weigherRecord reading) s
          = .next (finish
            { sendReport (.orphanWeight s.position.pitchCounter reading s.trail.entries.length) s with
              trail := { s.trail with entries := s.trail.entries.map (markEntry .trackLost) } }))
    ∧ (∀ a e b, s.config.weigherDistance ≠ 0 → s.trail.entries = a ++ e :: b → (∀ x ∈ a, passed x = false) →
        passed e = true →
        exec (.weigherRecord reading) s
          = .next (finish { s with trail := { s.trail with
            entries := s.trail.entries.map fun x =>
              if x.dischargePitch = e.dischargePitch then matchWeight reading s x else x } })
        ∧ (matchWeight reading s e).weight = some { reading := reading, late := e.lane.isSome }
        ∧ (e.lane ≠ none → (matchWeight reading s e).kind = e.kind)
        ∧ (∀ p codes, e.kind = .purge p codes → (matchWeight reading s e).kind = e.kind)
        ∧ (∀ r, e.kind = .real r → e.lane = none →
            let band := (recipeIn r.slot s).bind (·.weightBand)
            let judged := fun (q : Reason) => EntryKind.real { r with reasons := addReason r.reasons q }
            (band = none → (matchWeight reading s e).kind = .real r)
            ∧ (∀ low high, band = some (low, high) →
              (reading = none → (matchWeight reading s e).kind = judged .weightMissing)
              ∧ (∀ w, reading = some w →
                (w.toNat < low → (matchWeight reading s e).kind = judged .weightLow)
                ∧ (low ≤ w.toNat → high < w.toNat → (matchWeight reading s e).kind = judged .weightHigh)
                ∧ (low ≤ w.toNat → w.toNat ≤ high → (matchWeight reading s e).kind = .real r)))))

/-- R110, R111, R116 to R122: at a pitch-boundary crossing an open gate watch ends unconfirmed, the eye latch is read and
cleared, and then the gate is commanded. The entry due leaves the trail: with the latch set a can becomes a trace record with
the disposition its reasons give, counted in its lot, and with it clear a MISSING one with its report; an UNKNOWN pocket's
entry becomes a HOLD record with the latch set and leaves none with it clear. A latch set with no entry due is a stray. The
gate is commanded for the entry due at the next pitch, whose can gets WEIGHT_MISSING where a weight was awaited, and whose
lane is recorded; with none it is commanded to HOLD. A record of an entry with no lane, which no run makes, shows HOLD
(log 22). That CAN_MISSING is sent after what the record and the count bring is the model's choice (log 40). -/
def Obligations.TrailCrossingArrivesAndCommandsTheGate : Prop :=
  (∀ s : State,
      trailCrossing s
        = commandNext s.position.pitchCounter (arrivals s.position.pitchCounter (gateUnconfirmed s)))
  ∧ (∀ (e : TrailEntry) (rest : List TrailEntry) (pitch : Word32) (s : State),
      s.trail.entries = e :: rest → e.dischargePitch + BitVec.ofNat 32 s.config.gateDistance = pitch →
      let t := arrivals pitch s
      let left : State := { s with trail := { s.trail with
        eyeLatch := false,
        entries := rest.filter fun x => x.dischargePitch + BitVec.ofNat 32 s.config.gateDistance ≠ pitch } }
      let record := fun (d : Disposition) =>
        ({ number := s.trace.nextNumber, disposition := d, lane := e.lane.getD .hold, kind := e.kind,
           dischargePitch := e.dischargePitch, gatePitch := pitch, weight := e.weight } : TraceRecord)
      let next := if s.trace.nextNumber = 0xFFFFFFFF then 1 else s.trace.nextNumber + 1
      (∀ r, e.kind = .real r →
        let d := if s.trail.eyeLatch then laneDisposition (laneOf r.reasons) else .missing
        t.trail = left.trail ∧ t.trace = { s.trace with records := s.trace.records ++ [record d], nextNumber := next }
        ∧ (∀ l, s.lots.closing = none → openLot r.lot s = some l →
            l.accepted < 4294967295 → l.scrapped < 4294967295 → l.held < 4294967295 → l.missing < 4294967295 →
            openLot r.lot t = some (match d with
              | .accept => { l with accepted := l.accepted + 1, inFlight := l.inFlight - 1 }
              | .scrap => { l with scrapped := l.scrapped + 1, inFlight := l.inFlight - 1 }
              | .hold => { l with held := l.held + 1, inFlight := l.inFlight - 1 }
              | .missing => { l with missing := l.missing + 1, inFlight := l.inFlight - 1 }))
        ∧ (s.trail.eyeLatch = false →
            t = sendReport (.canMissing pitch (canId r) r.pocket) (countArrival r.lot .missing
              (createRecord e .missing pitch left))))
      ∧ (∀ p rs, e.kind = .purge p rs →
        (s.trail.eyeLatch = true → t.trail = left.trail ∧ t.lots = s.lots
          ∧ t.trace = { s.trace with records := s.trace.records ++ [record .hold], nextNumber := next })
        ∧ (s.trail.eyeLatch = false → t = left)))
  ∧ (∀ (pitch : Word32) (s : State),
      (∀ x ∈ s.trail.entries, x.dischargePitch + BitVec.ofNat 32 s.config.gateDistance ≠ pitch) →
      (s.trail.eyeLatch = true →
        arrivals pitch s = sendReport (.strayCan pitch) { s with trail := { s.trail with eyeLatch := false } })
      ∧ (s.trail.eyeLatch = false → arrivals pitch s = s))
  ∧ (∀ (pitch : Word32) (s : State),
      let due := fun (x : TrailEntry) => x.dischargePitch + BitVec.ofNat 32 s.config.gateDistance - 1 = pitch
      let commanded := fun (lane : GatePos) (entry : Option Word32) (entries : List TrailEntry) =>
        ({ s with trail := { s.trail with
            entries := entries, gateCommand := lane,
            watch := if s.inputs.gateSensor = some lane then none
              else some { entry := entry, settle := s.config.gateSettleTime } } } : State)
      ((∀ x ∈ s.trail.entries, ¬ due x) → commandNext pitch s = commanded .hold none s.trail.entries)
      ∧ (∀ a e b, s.trail.entries = a ++ e :: b → due e → (∀ x ∈ a, ¬ due x) →
          let written := fun (kind : EntryKind) (lane : GatePos) => s.trail.entries.map fun x =>
            if x.dischargePitch = e.dischargePitch then { e with kind := kind, lane := some lane } else x
          (∀ p rs, e.kind = .purge p rs →
            commandNext pitch s = commanded .hold (some e.dischargePitch) (written e.kind .hold))
          ∧ (∀ r, e.kind = .real r →
            let band := (recipeIn r.slot s).bind (·.weightBand)
            let awaited := e.weight = none ∧ s.config.weigherDistance ≠ 0 ∧ band ≠ none
            let r' := if awaited then { r with reasons := addReason r.reasons .weightMissing } else r
            let lane := laneOf r'.reasons
            commandNext pitch s = commanded lane (some e.dischargePitch) (written (.real r') lane))))

/-- R111: the eye latch is set when the gate eye becomes active. R117: the sensor showing the commanded position closes the
gate watch; any other showing leaves it. R118: a gate settle timer that runs out on an open watch is a gate fault: the entry
of the command, if it has one, gets GATE_UNCONFIRMED, the report is sent and GATE_FAULT handed; with the watch closed it does
nothing (log 2, DEDUCED). -/
def Obligations.GateInputsAndSettleTimerAct : Prop :=
  (∀ (active : Bool) (s : State),
      exec (.gateEyeInput active) s = .next (finish { s with
        inputs := { s.inputs with gateEye := active },
        trail := { s.trail with eyeLatch := s.trail.eyeLatch || (active && !s.inputs.gateEye) } }))
  ∧ (∀ (shown : Option GatePos) (s : State),
      exec (.gatePositionSensor shown) s = .next (finish { s with
        inputs := { s.inputs with gateSensor := shown },
        trail := { s.trail with watch := if shown = some s.trail.gateCommand then none else s.trail.watch } }))
  ∧ (∀ s : State,
      (s.trail.watch = none → exec .gateSettleTimerExpiry s = .next (finish s))
      ∧ (∀ w, s.trail.watch = some w → w.entry = none →
          exec .gateSettleTimerExpiry s = .next (finish (takeHaltCause .gateFault
            (sendReport (.gateFault s.trail.gateCommand s.inputs.gateSensor s.position.pitchCounter none)
              { s with trail := { s.trail with watch := none } }))))
      ∧ (∀ w pitch a e b, s.trail.watch = some w → w.entry = some pitch → s.trail.entries = a ++ e :: b →
          e.dischargePitch = pitch → (∀ x ∈ a, x.dischargePitch ≠ pitch) →
          exec .gateSettleTimerExpiry s = .next (finish (takeHaltCause .gateFault
            (sendReport (.gateFault s.trail.gateCommand s.inputs.gateSensor s.position.pitchCounter (entryCan e))
              { s with trail := { s.trail with
                watch := none,
                entries := s.trail.entries.map fun x =>
                  if x.dischargePitch = pitch then markEntry .gateUnconfirmed x else x } })))))

/-! ### Lots -/

/-- R141: every counting event keeps the identity of the open lots: admitted is the sum of accepted, scrapped, held, missing,
lost and in flight. Counts stay below their top, and what leaves the flight was in flight. -/
def Obligations.CountingEventsKeepTheLotIdentity : Prop :=
  let balanced := fun (o : Option LotRecord) => ∀ l, o = some l →
    l.admitted = l.accepted + l.scrapped + l.held + l.missing + l.lost + l.inFlight
  let books := fun (s : State) => balanced s.lots.current ∧ balanced s.lots.closing ∧ balanced s.lots.lastClosed
  ∀ (lot : LotId) (d : Disposition) (s : State), books s →
    (∀ l, openLot lot s = some l → l.admitted < 4294967295) →
    books (countAdmission lot s) ∧ books (countNoCan lot s)
    ∧ ((∀ l, openLot lot s = some l → l.inFlight ≠ 0) → books (countLost lot s) ∧ books (countArrival lot d s))

/-- R37, R39: reasons only join a set, each once; the lane is SCRAP with a scrap-class reason, else HOLD with a hold-class
one, else ACCEPT. -/
def Obligations.ReasonsDecideTheLane : Prop :=
  ∀ (rs : Reasons) (r : Reason),
    (∀ q : Reason, hasReason (addReason rs r) q = (hasReason rs q || decide (q = r)))
    ∧ addReason (addReason rs r) r = addReason rs r
    ∧ ((∃ q, hasReason rs q = true ∧ reasonCode q ≤ 11) → laneOf rs = .scrap)
    ∧ ((∀ q, hasReason rs q = true → 12 ≤ reasonCode q) → (∃ q, hasReason rs q = true) → laneOf rs = .hold)
    ∧ ((∀ q, hasReason rs q = false) → laneOf rs = .accept)

/-! ### Line control -/

/-- R162: an interlock input becoming active sets the latch, with its own cause only where it was clear, and hands its halt
cause; any other level changes the input alone. That INTERLOCK_SET carries the line state before HALT is the model's choice
(log 26). -/
def Obligations.InterlockInputSetsTheLatch : Prop :=
  ∀ (input : InterlockInput) (active : Bool) (s : State),
    let u : State := { s with inputs :=
      match input with
      | .guard => { s.inputs with guardDoor := active }
      | .leak => { s.inputs with leak := active } }
    let was := match input with
      | .guard => s.inputs.guardDoor
      | .leak => s.inputs.leak
    let cause : LatchCause := match input with
      | .guard => .guard
      | .leak => .leak
    let halt : HaltCause := match input with
      | .guard => .guard
      | .leak => .leak
    (active = false ∨ was = true → exec (.interlockInputActive input active) s = .next (finish u))
    ∧ (active = true → was = false → s.line.latch ≠ none →
        exec (.interlockInputActive input active) s = .next (finish (takeHaltCause halt u)))
    ∧ (active = true → was = false → s.line.latch = none →
        exec (.interlockInputActive input active) s = .next (finish (takeHaltCause halt
          (sendReport (.interlockSet cause s.line.state) { u with line := { u.line with latch := some cause } }))))

/-- R155: a sync timer that runs out in STARTING halts the line with SYNC_TIMEOUT. A timer that does not run does nothing
(log 2, DEDUCED). R164, R165: the quiet timer runs out:
from stage 0 to 1 with a report and the timer restarted; from stage 1 to 2 with a report, the timer stopped, the safe flag
set, the ceiling with it, an ARMED changeover failed, and then the drain: RUN becomes DRAIN, or STOPPED in the same event
where pockets and trail are empty (R158). -/
def Obligations.SyncAndQuietTimersExpire : Prop :=
  (∀ s : State,
      (s.line.syncTimer ≠ none → s.line.state = .starting →
        exec .syncTimerExpiry s = .next (finish (takeHaltCause .syncTimeout s)))
      ∧ (s.line.syncTimer = none ∨ s.line.state ≠ .starting → exec .syncTimerExpiry s = .next (finish s)))
  ∧ (∀ s : State,
      let q := s.config.quietTime
      (s.line.quietTimer = none → exec .quietTimerExpiry s = .next (finish s))
      ∧ (s.line.quietTimer ≠ none → s.line.stage = 0 →
          exec .quietTimerExpiry s = .next (finish (sendReport (.linkQuiet 1 q s.line.state)
            { s with line := { s.line with stage := 1, quietTimer := some q } })))
      ∧ (s.line.quietTimer ≠ none → s.line.stage = 1 →
          ∃ t, exec .quietTimerExpiry s = .next t ∧ t.line.stage = 2 ∧ t.line.quietTimer = none ∧ t.line.safe = true
            ∧ (s.line.safe = false → ∀ plan n counted, s.lots.changeover = .armed plan n counted →
                t.lots.changeover = .none ∧ t.lots.lastOutcome = some (.failed .safeProfile))
            ∧ (s.line.safe = false → t.position.speedCeiling = max (recipeCeiling s) s.config.safeCeiling)
            ∧ (s.line.state = .run → ¬ (pocketsEmpty s ∧ s.trail.entries = []) →
                t.line.state = .drain ∧ t.line.drainCause = some .linkQuiet ∧ t.line.runPermit = true)
            ∧ (s.line.state = .run → pocketsEmpty s → s.trail.entries = [] →
                t.line.state = .stopped ∧ t.line.drainCause = none ∧ t.line.runPermit = false)
            ∧ (s.line.state = .starting → t.line.state = .stopped ∧ t.line.runPermit = false)
            ∧ (s.line.state ≠ .run → s.line.state ≠ .starting → t.line.state = s.line.state)))

/-- R157, R158: a drain cause moves RUN to DRAIN, and on to STOPPED in the same event where pockets and trail are empty, and
STARTING to STOPPED; in DRAIN, HALT and STOPPED it changes nothing. -/
def Obligations.DrainCauseActsByTheLineState : Prop :=
  ∀ (cause : DrainCause) (s : State),
    let t := takeDrainCause cause s
    (s.line.state = .run → ¬ (pocketsEmpty s ∧ s.trail.entries = []) →
      t.line.state = .drain ∧ t.line.drainCause = some cause ∧ t.line.runPermit = true ∧ t.infeedGate = false
        ∧ t.pockets = s.pockets ∧ t.trail = s.trail ∧ t.line.haltRecord = s.line.haltRecord)
    ∧ (s.line.state = .run → pocketsEmpty s → s.trail.entries = [] →
      t.line.state = .stopped ∧ t.line.drainCause = none ∧ t.line.runPermit = false)
    ∧ (s.line.state = .starting → t.line.state = .stopped ∧ t.line.drainCause = none ∧ t.line.runPermit = false)
    ∧ (s.line.state = .drain ∨ s.line.state = .halt ∨ s.line.state = .stopped → t = s)

/-! ### Receiving, queueing and sending frames -/

/-- R171 to R173: in HUNTING only C3h starts a frame; in IN_FRAME a LEN below 2 or above 242 abandons it, and a byte before
the last is taken with the gap timer restarted. A gap timer that runs out abandons the frame; a stopped one does nothing
(log 2, DEDUCED). The changes of the sampled inputs that the command brings stand before it acts (the model's choice, log 4). -/
def Obligations.ReceiverAssemblesFramesByteByByte : Prop :=
  (∀ (port : Port) (b : Byte) (ins : List SampledInput) (before : State), deaf port before = false →
      let s := sampleInputs ins before
      let v := portOf port s
      let gap := match port with
        | .line => 2
        | .service => 10
      let hunting := setPort port { v with receiver := .hunting, gapTimer := none } s
      (v.receiver = .hunting → b ≠ 0xC3 → exec (.byteReceived port ⟨b, ins⟩) before = .next (finish s))
      ∧ (v.receiver = .hunting → b = 0xC3 →
          exec (.byteReceived port ⟨b, ins⟩) before
            = .next (finish (setPort port { v with receiver := .inFrame [0xC3], gapTimer := some gap } s)))
      ∧ (v.receiver = .inFrame [0xC3] → b.toNat < 2 ∨ 242 < b.toNat →
          exec (.byteReceived port ⟨b, ins⟩) before = .next (finish hunting))
      ∧ (∀ bytes, v.receiver = .inFrame bytes → 2 ≤ (byteAt (bytes ++ [b]) 1).toNat →
          (byteAt (bytes ++ [b]) 1).toNat ≤ 242 → bytes.length + 1 ≠ (byteAt (bytes ++ [b]) 1).toNat + 4 →
          exec (.byteReceived port ⟨b, ins⟩) before
            = .next (finish (setPort port { v with receiver := .inFrame (bytes ++ [b]), gapTimer := some gap } s)))
      ∧ (∀ bytes f, v.receiver = .inFrame bytes → bytes ++ [b] = frameBytes f → f.body.length ≤ 240 →
          exec (.byteReceived port ⟨b, ins⟩) before = exec (.frameReceived port ⟨f, []⟩) s)
      ∧ (∀ bytes, v.receiver = .inFrame bytes → 2 ≤ (byteAt (bytes ++ [b]) 1).toNat →
          (byteAt (bytes ++ [b]) 1).toNat ≤ 242 → bytes.length + 1 = (byteAt (bytes ++ [b]) 1).toNat + 4 →
          (∀ f, bytes ++ [b] ≠ frameBytes f) → exec (.byteReceived port ⟨b, ins⟩) before = .next (finish hunting)))
  ∧ (∀ (port : Port) (s : State),
      let v := portOf port s
      (v.gapTimer ≠ none → exec (.gapTimerExpiry port) s
        = .next (finish (setPort port { v with receiver := .hunting, gapTimer := none } s)))
      ∧ (v.gapTimer = none → exec (.gapTimerExpiry port) s = .next (finish s)))

/-- R171: the bytes of a whole frame, taken one after the other by a hunting receiver, are the arrival of that frame. -/
def Obligations.BytesOfAFrameAreItsArrival : Prop :=
  ∀ (port : Port) (f : Frame) (s : State), deaf port s = false → (portOf port s).receiver = .hunting →
    f.body.length ≤ 240 →
      (frameBytes f).foldl (fun t b => receiveByte port b t) s = receiveFrame port f s

/-- R164, R174 to R177: a whole frame is a sign of life on the line port; it joins a queue of fewer than 4, behind the
requests there, gets a BUSY refusal where the queue holds 4 and the slot is empty, or is discarded. On a free port it is taken
at once: refused by the link checks, or handed to its owner with its body, and its reply is outstanding; a KIND that is no
request kind, 01h to 1Bh, is refused with UNKNOWN_KIND. The changes of the sampled inputs that the command brings stand before
it acts (the model's choice, log 4). -/
def Obligations.FrameReceivedIsPlacedOrTaken : Prop :=
  (∀ (port : Port) (f : Frame) (ins : List SampledInput) (before : State), deaf port before = false →
      f.body.length ≤ 240 →
      let s := sampleInputs ins before
      let v := { portOf port s with receiver := .hunting, gapTimer := none }
      let u : State := match port with
        | .line => { s with line := { s.line with
            stage := 0, quietTimer := if s.config.quietTime = 0 then none else some s.config.quietTime } }
        | .service => s
      let busy : Frame := { kind := 0xFE, tag := f.tag, body := [f.kind, 0x06, 0] }
      (v.queue.length < 4 → v.queue ≠ [] ∨ v.refusal ≠ none →
        exec (.frameReceived port ⟨f, ins⟩) before = .next (finish (setPort port { v with queue := v.queue ++ [f] } u)))
      ∧ (v.queue.length = 4 → v.refusal = none →
        exec (.frameReceived port ⟨f, ins⟩) before
          = .next (finish (setPort port { v with refusal := some { frame := busy, ahead := 4 } } u)))
      ∧ (v.queue.length = 4 → v.refusal ≠ none →
        exec (.frameReceived port ⟨f, ins⟩) before = .next (finish (setPort port v u))))
  ∧ (∀ (port : Port) (f : Frame) (ins : List SampledInput) (before : State), freePort port before = true →
      f.body.length ≤ 240 →
      let u := atOwner port f (sampleInputs ins before)
      (bodyLength f.kind = none →
        exec (.frameReceived port ⟨f, ins⟩) before = answered port f (.refused .unknownKind 0) u)
      ∧ (∀ n, bodyLength f.kind = some n → f.body.length ≠ n →
        exec (.frameReceived port ⟨f, ins⟩) before = answered port f (.refused .badLength 0) u)
      ∧ (bodyLength f.kind = some f.body.length → port = .service → lineOnly f.kind = true →
        exec (.frameReceived port ⟨f, ins⟩) before = answered port f (.refused .notOnThisPort 0) u)
      ∧ (bodyLength f.kind = some f.body.length → port = .line ∨ lineOnly f.kind = false →
        exec (.frameReceived port ⟨f, ins⟩) before = answered port f (handToOwner port f u).2 (handToOwner port f u).1))
  ∧ (∀ (port : Port) (kind tag : Byte) (body : List Byte) (s : State),
      let f : Frame := { kind := kind, tag := tag, body := body }
      kind.toNat = 0 ∨ 27 < kind.toNat → body.length ≤ 240 → freePort port s = true →
        exec (.unknownKind port kind tag body) s = answered port f (.refused .unknownKind 0) (atOwner port f s))

/-- R175, R178: the end of a frame. After a reply its request gives up its place; the BUSY refusal whose turn has come, or
the next request, follows. The changes of the sampled inputs that the command brings stand before it acts (the model's choice,
log 4). -/
def Obligations.TransmitEndFreesThePlaceOfTheRequest : Prop :=
  ∀ (port : Port) (ins : List SampledInput) (before : State),
    let s := sampleInputs ins before
    let v := portOf port s
    let rest := v.queue.tail
    let aheadLess := v.refusal.map fun r => { r with ahead := r.ahead - 1 }
    (v.transmitter = none → exec (.transmitEnd ⟨port, ins⟩) before = .next (finish s))
    ∧ (∀ t, v.transmitter = some t → t.what = .report →
        exec (.transmitEnd ⟨port, ins⟩) before = .next (finish (setPort port { v with transmitter := none } s)))
    ∧ (∀ t, v.transmitter = some t → t.what = .reply → rest = [] → v.refusal = none →
        exec (.transmitEnd ⟨port, ins⟩) before = .next (finish (setPort port { v with transmitter := none, queue := [] } s)))
    ∧ (∀ t r, v.transmitter = some t → t.what = .reply → v.refusal = some r → r.ahead = 1 →
        exec (.transmitEnd ⟨port, ins⟩) before = .next (finish (setPort port { v with
          transmitter := none, queue := rest, refusal := aheadLess,
          outstanding := some { what := .busy, frame := r.frame } } s)))
    ∧ (∀ t f more, v.transmitter = some t → t.what = .reply → rest = f :: more →
        v.refusal = none ∨ (∃ r, v.refusal = some r ∧ 1 < r.ahead) →
        exec (.transmitEnd ⟨port, ins⟩) before
          = .next (finish (takeRequest port f
              (setPort port { v with transmitter := none, queue := rest, refusal := aheadLess } s))))
    ∧ (∀ t f more, v.transmitter = some t → t.what = .busy → v.queue = f :: more →
        exec (.transmitEnd ⟨port, ins⟩) before
          = .next (finish (takeRequest port f (setPort port { v with transmitter := none, refusal := none } s))))

/-! ### Requests on a free port -/

/-- R182, R183: PING is answered with what Table 10.3 gives, the dropped count in it although R178 says that no reply carries
it (log 37, DEDUCED), and changes nothing; SET_REPORT_MASK replaces the mask, and the service port refuses it. Bits 4 to 7 of
its byte, which Table 10.2 does not name, are ignored as the reserved bit 3 is (log 43, DEDUCED). -/
def Obligations.LinkRequestsAreAnswered : Prop :=
  ∀ (port : Port) (tag mask : Byte) (s : State),
    let ping : Frame := { kind := 0x01, tag := tag, body := [] }
    let set : Frame := { kind := 0x1B, tag := tag, body := [mask] }
    let u := atOwner .line set s
    (freePort port s = true →
      exec (.ping port tag) s = answered port ping (.accepted
        [match port with
          | .line => 1
          | .service => 2,
          1, n8 s.link.reports.length, (BitVec.ofNat 16 s.link.dropped).extractLsb' 0 8,
          (BitVec.ofNat 16 s.link.dropped).extractLsb' 8 8,
          n8 (s.link.maskTrace.toNat + 2 * s.link.maskLot.toNat + 4 * s.link.maskFault.toNat + 8)])
        (atOwner port ping s))
    ∧ (freePort .service s = true →
      exec (.setReportMask .service tag mask) s
        = answered .service set (.refused .notOnThisPort 0) (atOwner .service set s))
    ∧ (freePort .line s = true →
      exec (.setReportMask .line tag mask) s = answered .line set (.accepted [mask &&& 7 ||| 8])
        { u with link := { u.link with
          maskTrace := mask.getLsbD 0, maskLot := mask.getLsbD 1, maskFault := mask.getLsbD 2 } })

/-- R67, R104, R105, R135, R144, R151, R161, R168: the requests that read state are taken on both ports in every line state,
answer with the bodies of Chapter 10 and change nothing; GET_HEAD brings the changes of the sampled inputs with it (the
model's choice, log 4), and its reply shows the bell and jaw commands and the cup, bell and jaw inputs as they stand when it is
built (R85); GET_CHANNEL shows the accumulated mass in every channel state (log
18, DEDUCED); Chapter 10 gives GET_STATUS 115 bytes, GET_HEAD 61, GET_LOT 103,
GET_CHANGEOVER 27 and GET_HALT_RECORD 15. That the refusals of GET_CHANNEL and READ_RECIPE name their field is the model's
choice (log 42). -/
def Obligations.ReadingRequestsShowAndChangeNothing : Prop :=
  (∀ (port : Port) (tag : Byte) (s : State), freePort port s = true →
      let f := fun (kind : Byte) (body : List Byte) => ({ kind := kind, tag := tag, body := body } : Frame)
      let u := fun (kind : Byte) (body : List Byte) => atOwner port (f kind body) s
      exec (.getStatus port tag) s = answered port (f 0x02 []) (.accepted (statusBody (u 0x02 []))) (u 0x02 [])
      ∧ exec (.getHaltRecord port tag) s = answered port (f 0x09 []) (.accepted (haltBody s)) (u 0x09 [])
      ∧ exec (.getChangeover port tag) s = answered port (f 0x11 []) (.accepted (getChangeoverBody s)) (u 0x11 [])
      ∧ exec (.getLot port tag) s = answered port (f 0x12 []) (.accepted (lotBody s)) (u 0x12 [])
      ∧ exec (.readRetirements port tag) s = answered port (f 0x16 []) (.accepted (retirementsBody s)) (u 0x16 [])
      ∧ (∀ (p : PocketNo) (ins : List SampledInput),
          let now := sampleInputs ins s
          exec (.getHead port tag ⟨n8 p, ins⟩) s
            = answered port (f 0x13 [n8 p]) (.accepted (headBody p now)) (atOwner port (f 0x13 [n8 p]) now))
      ∧ (∀ c : ChannelNo, exec (.getChannel port tag (n8 c)) s
          = answered port (f 0x18 [n8 c]) (.accepted (channelBody c s)) (u 0x18 [n8 c]))
      ∧ (∀ i : SlotNo, exec (.readRecipe port tag (n8 i)) s
          = answered port (f 0x0E [n8 i]) (.accepted (readRecipeBody port i s)) (u 0x0E [n8 i]))
      ∧ (∀ (b : Byte) (ins : List SampledInput), 24 ≤ b.toNat →
          exec (.getHead port tag ⟨b, ins⟩) s
            = answered port (f 0x13 [b]) (.refused .badValue 1) (atOwner port (f 0x13 [b]) (sampleInputs ins s)))
      ∧ (∀ b : Byte, 4 ≤ b.toNat →
          exec (.getChannel port tag b) s = answered port (f 0x18 [b]) (.refused .badValue 1) (u 0x18 [b]))
      ∧ (∀ b : Byte, 8 ≤ b.toNat →
          exec (.readRecipe port tag b) s = answered port (f 0x0E [b]) (.refused .badValue 1) (u 0x0E [b])))
  ∧ (∀ (p : PocketNo) (s : State),
      (statusBody s).length = 115 ∧ (headBody p s).length = 61 ∧ (lotBody s).length = 103
        ∧ (getChangeoverBody s).length = 27 ∧ (haltBody s).length = 15)
  ∧ (∀ (p : PocketNo) (present : Bool) (ins : List SampledInput) (s : State),
      let now := sampleInputs (ins ++ [.cupPresent p present]) s
      ((headBody p now)[49]?).map (fun b => [b.getLsbD 0, b.getLsbD 1, b.getLsbD 2, b.getLsbD 3, b.getLsbD 4, b.getLsbD 5])
        = some [s.crimp[p].bellLowered, s.crimp[p].jawClosed, present, s.inputs.bellClosed[p], s.inputs.bellOpen[p],
            s.inputs.jawClosed[p]])

/-- Table 9.3: the service port carries twelve kinds not at all. -/
def Obligations.LineOnlyRequestsAreRefusedOnTheServicePort : Prop :=
  ∀ (tag slot target boundary head count mask : Byte) (lot newLot : Word32) (expected n : Word16) (c : ConfigWire)
    (r : RecipeWire) (s : State), freePort .service s = true →
    let refused := fun (i : Instr) (kind : Byte) (body : List Byte) =>
      exec i s = answered .service { kind := kind, tag := tag, body := body } (.refused .notOnThisPort 0)
        (atOwner .service { kind := kind, tag := tag, body := body } s)
    refused (.startLine .service tag lot slot) 0x03 (le32 lot ++ [slot])
    ∧ refused (.resync .service tag) 0x05 [] ∧ refused (.clearInterlock .service tag) 0x06 []
    ∧ refused (.clearSafe .service tag) 0x07 [] ∧ refused (.setConfig .service tag c) 0x08 (configBytes c)
    ∧ refused (.restart .service tag) 0x0A [] ∧ refused (.writeRecipe .service tag slot r) 0x0B (slot :: recipeBytes r)
    ∧ refused (.changeover .service tag target expected newLot boundary n) 0x0F
        (target :: (le16 expected ++ le32 newLot ++ [boundary] ++ le16 n))
    ∧ refused (.abortChangeover .service tag) 0x10 [] ∧ refused (.clearTallies .service tag head) 0x17 [head]
    ∧ refused (.takeTrace .service tag count) 0x1A [count] ∧ refused (.setReportMask .service tag mask) 0x1B [mask]

/-- R143, R154: START_LINE with every check passed resumes the current lot or opens a new one, and enters RUN where the
position is SYNCED and STARTING otherwise; else the refusal of its first failed check, those of line control in their order
and then those of the lot register: SLOT_EMPTY, the slot of a current lot that is another, LOT_OPEN, and the id of the last
closed lot. With both fields wrong the lot id is named (the model's choice, log 14). -/
def Obligations.StartLineStartsTheLineOrIsRefused : Prop :=
  (∀ (tag : Byte) (lot : Word32) (slot : SlotNo) (s : State),
      let f : Frame := { kind := 0x03, tag := tag, body := le32 lot ++ [n8 slot] }
      freePort .line s = true → lot ≠ 0 → s.line.state = .stopped → s.line.wf = true → s.line.latch = none →
      s.retirements.length ≤ s.config.retirementLimit → channelsInService s ≠ 0 → recipeIn slot s ≠ none →
      ((∃ l, s.lots.current = some l ∧ l.lot = lot ∧ l.slot = slot)
        ∨ ((∀ l, s.lots.current = some l → l.lot ≠ lot ∧ l.inFlight = 0 ∧ l.offers = 0) ∧ s.lots.changeover = .none
            ∧ (∀ l, s.lots.lastClosed = some l → l.lot ≠ lot))) →
        ∃ u, exec (.startLine .line tag lot (n8 slot)) s
            = answered .line f (.accepted (n8 (codeLineState u.line.state) :: (le32 lot ++ [n8 slot]))) u
          ∧ (∃ l, u.lots.current = some l ∧ l.lot = lot ∧ l.slot = slot)
          ∧ (s.position.sync ≠ .synced → u.line.state = .starting ∧ u.line.runPermit = true ∧ u.line.haltRecord = none
              ∧ u.line.syncTimer = some (s.config.syncTimeout * 1000))
          ∧ (s.position.sync = .synced → s.inputs.driveReady = true →
              u.line.state = .run ∧ u.line.runPermit = true ∧ u.line.haltRecord = none
                ∧ u.position.stallTimer = some s.config.stallTime)
          ∧ ((∀ l, s.lots.current = some l → l.lot ≠ lot) → u.lots.current = some
              { lot := lot, slot := slot, generation := generationOf slot s, admitted := 0, accepted := 0, scrapped := 0,
                held := 0, missing := 0, lost := 0, inFlight := 0, offers := 0 }))
  ∧ (∀ (tag slot : Byte) (lot : Word32) (s : State), freePort .line s = true →
      let f : Frame := { kind := 0x03, tag := tag, body := le32 lot ++ [slot] }
      let refused := fun (reason : RefusalReason) (field : Nat) =>
        exec (.startLine .line tag lot slot) s = answered .line f (.refused reason field) (atOwner .line f s)
      (lot = 0 → refused .badValue 1)
      ∧ (lot ≠ 0 → 8 ≤ slot.toNat → refused .badValue 2)
      ∧ (lot ≠ 0 → slot.toNat < 8 → s.line.state ≠ .stopped → refused .wrongState 0)
      ∧ (lot ≠ 0 → slot.toNat < 8 → s.line.state = .stopped → s.line.latch ≠ none → refused .interlock 0)
      ∧ (lot ≠ 0 → slot.toNat < 8 → s.line.state = .stopped → s.line.latch = none →
          s.config.retirementLimit < s.retirements.length → refused .retirementLimit 0)
      ∧ (lot ≠ 0 → slot.toNat < 8 → s.line.state = .stopped → s.line.latch = none →
          s.retirements.length ≤ s.config.retirementLimit → channelsInService s = 0 → refused .noChannel 0)
      ∧ (∀ i : SlotNo, slot = n8 i → lot ≠ 0 → s.line.state = .stopped → s.line.latch = none →
          s.retirements.length ≤ s.config.retirementLimit → channelsInService s ≠ 0 →
          (recipeIn i s = none → refused .slotEmpty 0)
          ∧ (∀ l, recipeIn i s ≠ none → s.lots.current = some l → l.lot = lot → l.slot ≠ i → refused .badValue 2)
          ∧ (recipeIn i s ≠ none → (∀ l, s.lots.current = some l → l.lot ≠ lot) →
              (s.lots.changeover ≠ .none ∨ (∃ l, s.lots.current = some l ∧ (l.inFlight ≠ 0 ∨ l.offers ≠ 0)) →
                refused .lotOpen 0)
              ∧ (∀ q, s.lots.changeover = .none → (∀ l, s.lots.current = some l → l.inFlight = 0 ∧ l.offers = 0) →
                  s.lots.lastClosed = some q → q.lot = lot → refused .badValue 1))))

/-- R156: STOP_LINE by mode, port and line state. -/
def Obligations.StopLineActsByModeAndLineState : Prop :=
  ∀ (port : Port) (tag : Byte) (s : State), freePort port s = true →
    let f := fun (mode : Byte) => ({ kind := 0x04, tag := tag, body := [mode] } : Frame)
    let u := fun (mode : Byte) => atOwner port (f mode) s
    let done := fun (mode : Byte) (t : State) =>
      exec (.stopLine port tag mode) s = answered port (f mode) (.accepted [n8 (codeLineState t.line.state)]) t
    (s.line.state = .halt ∨ s.line.state = .stopped → done 2 (u 2))
    ∧ (s.line.state = .starting ∨ s.line.state = .run ∨ s.line.state = .drain → port = .line →
        done 2 (takeHaltCause .hostStop (u 2)))
    ∧ (s.line.state = .starting ∨ s.line.state = .run ∨ s.line.state = .drain → port = .service →
        done 2 (takeHaltCause .serviceStop (u 2)))
    ∧ (port = .line → s.line.state = .drain ∨ s.line.state = .halt ∨ s.line.state = .stopped → done 1 (u 1))
    ∧ (port = .line → s.line.state = .run → done 1 (takeDrainCause .hostStop (u 1)))
    ∧ (port = .line → s.line.state = .starting → done 1 (changeLine .stopped none .stopControlled id (u 1))
        ∧ (changeLine .stopped none .stopControlled id (u 1)).line.state = .stopped
        ∧ (changeLine .stopped none .stopControlled id (u 1)).line.runPermit = false)
    ∧ (port = .service → exec (.stopLine port tag 1) s = answered port (f 1) (.refused .notOnThisPort 0) (u 1))
    ∧ (∀ mode : Byte, mode ≠ 1 → mode ≠ 2 →
        exec (.stopLine port tag mode) s = answered port (f mode) (.refused .badValue 1) (u mode))

/-- R7, R163, R165, R169: RESYNC, CLEAR_INTERLOCK, CLEAR_SAFE and RESTART on the line port; the service port refuses the
first two with NOT_ON_THIS_PORT, as it does every kind of Table 9.3's last row. R184: RESTART leaves both receivers HUNTING,
RESTART alone in the line queue, the service queue empty but for a request whose reply is outstanding or being sent, the
refusal slots empty, every level enabled, the dropped count 0, and in the report queue the RESTART reports of the heads that
were in PROBATION, by rising head number (the model's choice, log 33). That a supply state or a channel state which RESTART
resets is not reported is the model's choice too (log 36). -/
def Obligations.LineControlRequestsAct : Prop :=
  let reply := fun (t : TxFrame) => t.what = .reply
  let restartPort := fun (v : PortState) (queue : List Frame) (outstanding : Option TxFrame) =>
    ({ receiver := .hunting, gapTimer := none, queue := queue, refusal := none, outstanding := outstanding,
       transmitter := v.transmitter } : PortState)
  let restartReports := fun (s : State) => (List.finRange 24).filterMap fun (p : PocketNo) =>
    if s.heads[p].state = .probation then
      some (Report.headState p .probation .reseatPending .restart none s.heads[p].zeroOffset 0 0 s.retirements.length)
    else none
  let restartLink := fun (s : State) =>
    let v := s.link.servicePort
    let replying := v.outstanding.any (fun t => reply t) || v.transmitter.any (fun t => reply t)
    ({ linePort := restartPort s.link.linePort (s.link.linePort.queue.take 1) none,
       servicePort := restartPort v (if replying then v.queue.take 1 else []) (v.outstanding.filter fun t => reply t),
       reports := restartReports s, dropped := 0, maskTrace := true, maskLot := true, maskFault := true } : LinkController)
  (∀ s : State, s.line.state = .stopped → (ownRestart s).1.link = restartLink s)
  ∧ ∀ (tag : Byte) (s : State), freePort .line s = true →
    let f := fun (kind : Byte) => ({ kind := kind, tag := tag, body := [] } : Frame)
    let u := fun (kind : Byte) => atOwner .line (f kind) s
    (freePort .service s = true →
      exec (.resync .service tag) s
          = answered .service (f 0x05) (.refused .notOnThisPort 0) (atOwner .service (f 0x05) s)
      ∧ exec (.clearInterlock .service tag) s
          = answered .service (f 0x06) (.refused .notOnThisPort 0) (atOwner .service (f 0x06) s))
    ∧ (s.line.state ≠ .stopped → exec (.resync .line tag) s = answered .line (f 0x05) (.refused .wrongState 0) (u 0x05))
    ∧ (s.line.state = .stopped → s.position.sync ≠ .synced →
        exec (.resync .line tag) s = answered .line (f 0x05) (.accepted [1])
          { u 0x05 with position := { s.position with
            sync := .unsynced, stepCount := 0, pitchTime := none, lastBoundary := none } })
    ∧ (s.line.state = .stopped → s.position.sync = .synced →
        exec (.resync .line tag) s = answered .line (f 0x05) (.accepted [1])
          (losePosition { u 0x05 with position := { s.position with
            sync := .unsynced, stepCount := 0, pitchTime := none, lastBoundary := none } }))
    ∧ (s.inputs.guardDoor = true ∨ s.inputs.leak = true →
        exec (.clearInterlock .line tag) s = answered .line (f 0x06) (.refused .inputActive 0) (u 0x06))
    ∧ (s.inputs.guardDoor = false → s.inputs.leak = false →
        exec (.clearInterlock .line tag) s = answered .line (f 0x06) (.accepted [0, 0])
          { u 0x06 with line := { (u 0x06).line with latch := none } })
    ∧ (exec (.clearSafe .line tag) s = answered .line (f 0x07) (.accepted [0, 0])
          { u 0x07 with
            line := { (u 0x07).line with safe := false },
            position := { s.position with speedCeiling := recipeCeiling s } })
    ∧ (s.line.state ≠ .stopped →
        exec (.restart .line tag) s = answered .line (f 0x0A) (.refused .wrongState 0) (u 0x0A))
    ∧ (s.line.state = .stopped →
        ∃ t, exec (.restart .line tag) s
            = answered .line (f 0x0A) (.accepted [1, opt8 codeLatch s.line.latch, flag8 s.line.safe]) t
          ∧ t.line = { LineControl.initial with latch := s.line.latch, safe := s.line.safe }
          ∧ t.config = s.config ∧ t.recipes.slots = s.recipes.slots ∧ t.retirements = s.retirements
          ∧ (∀ p : PocketNo,
              let h := s.heads[p]
              t.heads[p] =
                { state := if h.state = .inService ∨ h.state = .retired ∨ h.state = .out then h.state else .reseatPending,
                  consecutive := 0, remainder := 0, zeroOffset := h.zeroOffset, tallies := h.tallies, lastCan := none,
                  cause := if h.state = .retired ∨ h.state = .out then h.cause else none,
                  overflow := decide (h.state = .out) && h.overflow })
          ∧ t.position = PositionCounter.initial ∧ t.gas = GasUnit.initial ∧ t.lots = LotRegister.initial
          ∧ t.trace = TraceBuffer.initial ∧ t.trail.entries = [] ∧ t.trail.gateCommand = .hold
          ∧ (∀ p : PocketNo, t.pockets[p] = Pocket.initial ∧ t.crimp[p] = CrimpHead.initial)
          ∧ t.recipes.lineReservation = none ∧ t.recipes.serviceReservation = none
          ∧ t.link = restartLink (u 0x0A))

/-- R167: SET_CONFIG in STOPPED with values in range, L not below the retirement count, and D and W unchanged while the trail
holds entries, replaces the whole configuration; outside STOPPED it is refused with WRONG_STATE, judged before its fields
(the model's choice, log 14). The first value out of range is named, then an L below the retirement count (R106), then a
changed D or W with entries in the trail (R129). Stage 0 and the quiet timer restart with the new Q at acceptance (log 28,
DEDUCED), and the IDLE channels that meet a new tare interval (R61) join the tare queue, by rising channel number (the model's
choice, log 32); that the comparison makes no SETTLING channel's tare due is the model's choice too (log 41). -/
def Obligations.SetConfigReplacesTheConfigurationWhole : Prop :=
  ∀ (tag : Byte) (c : ConfigWire) (s : State), freePort .line s = true →
    let f : Frame := { kind := 0x08, tag := tag, body := configBytes c }
    let new := configOf c
    (s.line.state ≠ .stopped →
      exec (.setConfig .line tag c) s = answered .line f (.refused .wrongState 0) (atOwner .line f s))
    ∧ (∀ field, s.line.state = .stopped → configBadField new = some field →
      exec (.setConfig .line tag c) s = answered .line f (.refused .badValue field) (atOwner .line f s))
    ∧ (s.line.state = .stopped → configBadField new = none → new.retirementLimit < s.retirements.length →
      exec (.setConfig .line tag c) s = answered .line f (.refused .badValue 3) (atOwner .line f s))
    ∧ (s.line.state = .stopped → configBadField new = none → s.retirements.length ≤ new.retirementLimit →
      s.trail.entries ≠ [] →
      (new.gateDistance ≠ s.config.gateDistance →
        exec (.setConfig .line tag c) s = answered .line f (.refused .badValue 1) (atOwner .line f s))
      ∧ (new.gateDistance = s.config.gateDistance → new.weigherDistance ≠ s.config.weigherDistance →
        exec (.setConfig .line tag c) s = answered .line f (.refused .badValue 2) (atOwner .line f s)))
    ∧ (s.line.state = .stopped → configBadField new = none → s.retirements.length ≤ new.retirementLimit →
      (s.trail.entries = [] ∨ (new.gateDistance = s.config.gateDistance
        ∧ new.weigherDistance = s.config.weigherDistance)) →
      ∃ t, exec (.setConfig .line tag c) s = answered .line f (.accepted (configBytes c)) t
        ∧ t.config = new ∧ t.trail = s.trail ∧ t.pockets = s.pockets ∧ t.heads = s.heads ∧ t.lots = s.lots
        ∧ t.recipes = s.recipes ∧ t.trace = s.trace ∧ t.line.state = .stopped
        ∧ t.line.quietTimer = (if new.quietTime = 0 then none else some new.quietTime) ∧ t.line.stage = 0
        ∧ (s.line.safe = true → t.position.speedCeiling = max (recipeCeiling s) new.safeCeiling)
        ∧ (let meets := fun (d : ChannelNo) => s.gas.channels[d].state = .idle
              ∧ (new.tareIntervalCount ≤ s.gas.channels[d].chargesSinceTare
                ∨ new.tareIntervalTime * 1000000 ≤ s.gas.channels[d].timeSinceTare)
          t.gas = { s.gas with channels := t.gas.channels, tareQueue := t.gas.tareQueue }
          ∧ t.gas.tareQueue
              = s.gas.tareQueue ++ (List.finRange 4).filter (fun d => meets d ∧ d ∉ s.gas.tareQueue)
          ∧ ∀ d : ChannelNo,
            (meets d → d ∉ s.gas.tareQueue → t.gas.channels[d].tareDue = true
              ∧ (t.gas.channels[d].state = .tareWait ∨ t.gas.channels[d].state = .tare))
            ∧ (¬ meets d → d ∉ s.gas.tareQueue ∨ s.gas.channels[d].state = .tare →
              t.gas.channels[d] = s.gas.channels[d])))

/-- R131 to R138: a write of a slot that is not in use, with every field in range, replaces content and generation and
clears every reservation of the slot; RESERVE_RECIPE takes the slot's generation for its port; WRITE_RECIPE_RESERVED
needs it. -/
def Obligations.RecipeRequestsActOnOneSlot : Prop :=
  ∀ (port : Port) (tag : Byte) (slot : SlotNo) (r : RecipeWire) (s : State),
    let write : Frame := { kind := 0x0B, tag := tag, body := n8 slot :: recipeBytes r }
    let reservedWrite : Frame := { kind := 0x0D, tag := tag, body := n8 slot :: recipeBytes r }
    let reserve : Frame := { kind := 0x0C, tag := tag, body := [n8 slot] }
    let g := generationOf slot s
    let stored := fun (t : State) =>
      t.recipes.slots = s.recipes.slots.set slot { generation := g + 1, content := some (recipeOf r) }
        ∧ t.recipes.lineReservation = s.recipes.lineReservation.filter (fun q => q.slot ≠ slot)
        ∧ t.recipes.serviceReservation = s.recipes.serviceReservation.filter (fun q => q.slot ≠ slot)
        ∧ t.lots = s.lots ∧ t.trail = s.trail ∧ t.trace = s.trace ∧ t.heads = s.heads
    (freePort .line s = true → slotInUse slot s = false → recipeBadField r = none →
      ∃ t, exec (.writeRecipe .line tag (n8 slot) r) s
          = answered .line write (.accepted (n8 slot :: le16 (g + 1))) t ∧ stored t)
    ∧ (freePort .line s = true → slotInUse slot s = true →
      exec (.writeRecipe .line tag (n8 slot) r) s
        = answered .line write (.refused .slotInUse 0) (atOwner .line write s))
    ∧ (∀ field, freePort .line s = true → slotInUse slot s = false → recipeBadField r = some field →
      exec (.writeRecipe .line tag (n8 slot) r) s
        = answered .line write (.refused .badValue field) (atOwner .line write s))
    ∧ (freePort port s = true → reservationOf port s = some { slot := slot, generation := g } →
      slotInUse slot s = false → recipeBadField r = none →
      ∃ t, exec (.writeRecipeReserved port tag (n8 slot) r) s
          = answered port reservedWrite (.accepted (n8 slot :: le16 (g + 1))) t ∧ stored t)
    ∧ (freePort port s = true → reservationOf port s ≠ some { slot := slot, generation := g } →
      exec (.writeRecipeReserved port tag (n8 slot) r) s
        = answered port reservedWrite (.refused .lostReservation 0) (atOwner port reservedWrite s))
    ∧ (freePort port s = true →
      ∃ t, exec (.reserveRecipe port tag (n8 slot)) s
          = answered port reserve (.accepted ([n8 slot, if recipeIn slot s = none then 1 else 2] ++ le16 g
              ++ [flag8 (slotInUse slot s)])) t
        ∧ reservationOf port t = some { slot := slot, generation := g }
        ∧ t = { atOwner port reserve s with recipes := t.recipes } ∧ t.recipes.slots = s.recipes.slots
        ∧ (∀ q, q ≠ port → reservationOf q t = reservationOf q s))

/-- R145, R149: CHANGEOVER with every check passed is ARMED with its plan; ABORT_CHANGEOVER fails an ARMED one, is TOO_LATE
for a SWITCHING one, and WRONG_STATE with none. R146: with remaining above 0 an offer counts down and joins the counted set;
with remaining 0 it is the boundary, where the new lot opens with this offer standing and becomes current. -/
def Obligations.ChangeoverArmsMeetsItsBoundaryAndAborts : Prop :=
  (∀ (tag : Byte) (target : SlotNo) (newLot : Word32) (boundary : Byte) (n expected : Word16) (s : State),
      freePort .line s = true →
      let f : Frame := { kind := 0x0F, tag := tag,
                         body := n8 target :: (le16 expected ++ le32 newLot ++ [boundary] ++ le16 n) }
      let a : Frame := { kind := 0x10, tag := tag, body := [] }
      let where' : Boundary := if boundary = 1 then .next else .after n.toNat
      let count := if boundary = 1 then 0 else n.toNat
      let plan : ChangePlan := { target := target, expected := expected, newLot := newLot, boundary := where' }
      (newLot ≠ 0 → boundary = 1 ∨ (boundary = 2 ∧ n ≠ 0) → s.line.state = .run ∨ s.line.state = .starting →
        s.lots.changeover = .none → s.line.safe = false → recipeIn target s ≠ none → generationOf target s = expected →
        activeSlot s ≠ some target → (∀ l, s.lots.current = some l → l.lot ≠ newLot) →
        (∀ l, s.lots.lastClosed = some l → l.lot ≠ newLot) →
        exec (.changeover .line tag (n8 target) expected newLot boundary n) s
          = answered .line f (.accepted ([2, n8 target] ++ le16 expected ++ n16 count))
              { atOwner .line f s with lots := { s.lots with
                changeover := .armed plan count (Vector.replicate 24 false) } })
      ∧ (∀ p m counted, s.lots.changeover = .armed p m counted →
        exec (.abortChangeover .line tag) s
          = answered .line a (.accepted [1, 2, 1]) (sendReport (.changeFailed .hostAbort)
              { atOwner .line a s with lots := { s.lots with
                changeover := .none, lastOutcome := some (.failed .hostAbort) } }))
      ∧ (∀ p, s.lots.changeover = .switching p →
        exec (.abortChangeover .line tag) s = answered .line a (.refused .tooLate 0) (atOwner .line a s))
      ∧ (s.lots.changeover = .none →
        exec (.abortChangeover .line tag) s = answered .line a (.refused .wrongState 0) (atOwner .line a s)))
  ∧ (∀ (p : PocketNo) (plan : ChangePlan) (n : Nat) (counted : Vector Bool 24) (l : LotRecord) (s : State),
      s.lots.changeover = .armed plan n counted → s.lots.current = some l →
      (0 < n → offerLot p s = { s with lots := { s.lots with
        current := some { l with offers := l.offers + 1 },
        changeover := .armed plan (n - 1) (counted.set p true) } })
      ∧ (n = 0 →
        let t := offerLot p s
        let new : LotRecord := { lot := plan.newLot, slot := plan.target, generation := generationOf plan.target s,
                                 admitted := 0, accepted := 0, scrapped := 0, held := 0, missing := 0, lost := 0,
                                 inFlight := 0, offers := 1 }
        t.lots.current = some new
        ∧ (l.inFlight ≠ 0 ∨ l.offers ≠ 0 → t.lots.changeover = .switching plan ∧ t.lots.closing = some l)
        ∧ (l.inFlight = 0 → l.offers = 0 → t.lots.changeover = .none ∧ t.lots.closing = none
            ∧ t.lots.lastClosed = some l ∧ t.lots.lastOutcome = some .committed)))

/-- R100 to R102: the requests that move a head. The service port may bring them in STOPPED alone. -/
def Obligations.HeadRequestsMoveOneHead : Prop :=
  ∀ (port : Port) (tag : Byte) (p : PocketNo) (s : State), freePort port s = true →
    let h := s.heads[p]
    let restore : Frame := { kind := 0x15, tag := tag, body := [n8 p] }
    let set := fun (d : Byte) => ({ kind := 0x14, tag := tag, body := [n8 p, d] } : Frame)
    let others := fun (t : State) => ∀ q : PocketNo, q ≠ p → t.heads[q] = s.heads[q]
    let without := s.retirements.filter fun r => r.pocket ≠ p
    (port = .service → s.line.state ≠ .stopped →
      exec (.restoreHead port tag (n8 p)) s = answered port restore (.refused .wrongState 0) (atOwner port restore s)
      ∧ ∀ d : Byte, d = 1 ∨ d = 2 → exec (.setHeadOut port tag (n8 p) d) s
          = answered port (set d) (.refused .wrongState 0) (atOwner port (set d) s))
    ∧ (port = .line ∨ s.line.state = .stopped →
      (h.state = .retired →
        ∃ t, exec (.restoreHead port tag (n8 p)) s
            = answered port restore (.accepted [n8 p, 2, n8 without.length]) t
          ∧ t.heads[p] = { h with state := .reseatPending, consecutive := 0, remainder := 0, cause := none }
          ∧ t.retirements = without ∧ others t)
      ∧ (h.state ≠ .retired →
        exec (.restoreHead port tag (n8 p)) s = answered port restore (.refused .wrongState 0) (atOwner port restore s))
      ∧ (∃ t, exec (.setHeadOut port tag (n8 p) 1) s = answered port (set 1) (.accepted [n8 p, 6, n8 without.length]) t
          ∧ t.heads[p] = { h with state := .out, consecutive := 0, remainder := 0, cause := none, overflow := false }
          ∧ t.retirements = without ∧ others t)
      ∧ (h.state = .out →
        ∃ t, exec (.setHeadOut port tag (n8 p) 2) s
            = answered port (set 2) (.accepted [n8 p, 2, n8 s.retirements.length]) t
          ∧ t.heads[p] = { h with
              state := .reseatPending, consecutive := 0, remainder := 0, cause := none, overflow := false }
          ∧ t.retirements = s.retirements ∧ others t)
      ∧ (h.state ≠ .out →
        exec (.setHeadOut port tag (n8 p) 2) s = answered port (set 2) (.refused .wrongState 0) (atOwner port (set 2) s)))

/-- R103: CLEAR_TALLIES sets the six tallies of the named head, or with FFh of every head, to 0 and changes nothing else; a
head number from 24 to FEh is refused. That the reply's body is the one byte of the head number as received is the model's
choice (log 39), and so is that the refusal names the head field (log 42). -/
def Obligations.ClearTalliesSetsTalliesAlone : Prop :=
  ∀ (tag : Byte) (s : State), freePort .line s = true →
    let f := fun (head : Byte) => ({ kind := 0x17, tag := tag, body := [head] } : Frame)
    let u := fun (head : Byte) => atOwner .line (f head) s
    let zero : Tallies := { seat := 0, dose := 0, crimp := 0, jaw := 0, cal := 0, stuck := 0 }
    (∀ p : PocketNo, exec (.clearTallies .line tag (n8 p)) s
      = answered .line (f (n8 p)) (.accepted [n8 p]) (setHead p { s.heads[p] with tallies := zero } (u (n8 p))))
    ∧ (∃ heads : Vector Head 24,
        exec (.clearTallies .line tag 0xFF) s
          = answered .line (f 0xFF) (.accepted [0xFF]) { u 0xFF with heads := heads }
        ∧ ∀ q : PocketNo, heads[q] = { s.heads[q] with tallies := zero })
    ∧ (∀ head : Byte, 24 ≤ head.toNat → head.toNat ≤ 0xFE →
      exec (.clearTallies .line tag head) s = answered .line (f head) (.refused .badValue 1) (u head))

/-- R66: SET_CHANNEL by the channel's state, with its refusals. That WRONG_STATE on the service port is judged before the
fields, and that with both fields wrong the channel is named, are the model's choices (log 14). -/
def Obligations.SetChannelActsByChannelState : Prop :=
  ∀ (port : Port) (tag : Byte) (c : ChannelNo) (s : State), freePort port s = true → s.gas.tareQueue.Nodup →
    let ch := s.gas.channels[c]
    let f := fun (action : Byte) => ({ kind := 0x19, tag := tag, body := [n8 c, action] } : Frame)
    let u := fun (action : Byte) => atOwner port (f action) s
    let done := fun (action : Byte) (t : State) => exec (.setChannel port tag (n8 c) action) s
      = answered port (f action) (.accepted
          [n8 c, n8 (codeChannelState t.gas.channels[c].state), flag8 t.gas.channels[c].offPending]) t
    (port = .service → s.line.state ≠ .stopped → ∀ action : Byte,
      exec (.setChannel port tag (n8 c) action) s = answered port (f action) (.refused .wrongState 0) (u action))
    ∧ (port = .line ∨ s.line.state = .stopped →
      (∀ channel action : Byte, 4 ≤ channel.toNat →
        let bad : Frame := { kind := 0x19, tag := tag, body := [channel, action] }
        exec (.setChannel port tag channel action) s = answered port bad (.refused .badValue 1) (atOwner port bad s))
      ∧ (∀ action : Byte, action ≠ 1 → action ≠ 2 →
        exec (.setChannel port tag (n8 c) action) s = answered port (f action) (.refused .badValue 2) (u action))
      ∧ (ch.state = .idle ∨ ch.state = .tareWait →
        done 2 (u 2) ∧ ∃ t, done 1 t ∧ t.gas.channels[c].state = .off ∧ t.gas.tareQueue = s.gas.tareQueue.erase c)
      ∧ (ch.state = .tare ∨ ch.state = .charging ∨ ch.state = .settling →
        done 1 (setChannel c { ch with offPending := true } (u 1))
          ∧ done 2 (setChannel c { ch with offPending := false } (u 2)))
      ∧ (ch.state = .fault ∨ ch.state = .off →
        done 1 (u 1) ∧ ∃ t, done 2 t ∧ (t.gas.channels[c].state = .tareWait ∨ t.gas.channels[c].state = .tare)
          ∧ t.gas.tareQueue = (if c ∈ s.gas.tareQueue then s.gas.tareQueue else s.gas.tareQueue ++ [c])
          ∧ t.gas.channels[c].chargesSinceTare = 0 ∧ t.gas.channels[c].timeSinceTare = 0
          ∧ t.gas.channels[c].standing = 0 ∧ t.gas.channels[c].outOfBand = 0 ∧ t.gas.channels[c].tareDue = false
          ∧ t.gas.channels[c].faultCause = none ∧ t.gas.channels[c].preact = ch.preact
          ∧ t.gas.channels[c].zeroOffset = ch.zeroOffset))

/-- R124: TAKE_TRACE takes the oldest records, at most n and none beyond 240 bytes of body, and deletes exactly those; four
records always fit. The service port refuses it. -/
def Obligations.TakeTraceDeliversAndDeletesTheOldest : Prop :=
  ∀ (tag n : Byte) (s : State), freePort .line s = true → freePort .service s = true →
    let f : Frame := { kind := 0x1A, tag := tag, body := [n] }
    exec (.takeTrace .service tag n) s = answered .service f (.refused .notOnThisPort 0) (atOwner .service f s)
    ∧ (n.toNat = 0 ∨ 8 < n.toNat →
      exec (.takeTrace .line tag n) s = answered .line f (.refused .badValue 1) (atOwner .line f s))
    ∧ (n.toNat ≠ 0 → n.toNat ≤ 8 →
      ∃ taken rest, s.trace.records = taken ++ rest ∧ taken.length ≤ n.toNat
        ∧ min 4 (min n.toNat s.trace.records.length) ≤ taken.length
        ∧ (n8 taken.length :: taken.flatMap traceBytes).length ≤ 240
        ∧ exec (.takeTrace .line tag n) s
          = answered .line f (.accepted (n8 taken.length :: taken.flatMap traceBytes))
              { atOwner .line f s with trace := { s.trace with records := rest } }
        ∧ (∀ r more, rest = r :: more → taken.length = n.toNat
            ∨ 240 < (n8 taken.length :: (taken ++ [r]).flatMap traceBytes).length))

/-! ### Encodings -/

/-- A recipe record and a configuration are read back from the bytes that carry them, behind any slot byte, and a frame from
the bytes of its wire form, at every value of every field. -/
def Obligations.RecordsAndFramesReadBackFromTheirBytes : Prop :=
  (∀ (slot : Byte) (r : RecipeWire), recipeAt (slot :: recipeBytes r) 1 = r ∧ (recipeBytes r).length = 65)
  ∧ (∀ c : ConfigWire, configAt (configBytes c) = c ∧ (configBytes c).length = 21)
  ∧ (∀ f : Frame, f.body.length ≤ 240 → parseFrame (frameBytes f) = some f)

/-- R9: with every check of a recipe passed, the phases keep the distances of Table 1.4: release is at least 120 counts
before DISCHARGE and every phase lies between 30 and 2400. What READ_RECIPE returns for such a record is, field for field,
what was written: the padding of the name and the fields of an absent weight band are 0. -/
def Obligations.ValidatedRecipesKeepTheirDistancesAndReadBack : Prop :=
  (∀ r : RecipeWire, recipeBadField r = none →
      let p := (recipeOf r).phases
      30 ≤ p.admitCheck ∧ p.admitCheck + 30 ≤ p.cupCheck ∧ p.cupCheck + 30 ≤ p.seat ∧ p.seat + 30 ≤ p.chargeOpen
        ∧ p.chargeOpen + 30 ≤ p.chargeLatest ∧ p.chargeLatest + 30 ≤ p.chargeClose
        ∧ p.chargeClose + 120 ≤ p.crimpStart ∧ p.crimpStart + 30 ≤ p.crimpMeasure ∧ p.crimpMeasure + 30 ≤ p.release
        ∧ p.release + 120 ≤ 2520 ∧ ∀ x ∈ phaseList p, 30 ≤ x ∧ x ≤ 2400)
  ∧ (∀ r : RecipeWire, recipeBadField r = none →
      let w := recipeWireOf (recipeOf r)
      w.nameLength = r.nameLength ∧ recipeName w = recipeName r ∧ w.productCode = r.productCode
        ∧ w.doseTarget = r.doseTarget ∧ w.doseTolerance = r.doseTolerance ∧ w.supplyMinimum = r.supplyMinimum
        ∧ w.phases = r.phases ∧ w.jawMode = r.jawMode ∧ w.jawTime = r.jawTime ∧ w.heightLow = r.heightLow
        ∧ w.heightHigh = r.heightHigh ∧ w.forceLow = r.forceLow ∧ w.forceHigh = r.forceHigh
        ∧ w.minimumPitch = r.minimumPitch ∧ w.bandPresence = r.bandPresence
        ∧ (r.bandPresence = 1 → w.weightLow = r.weightLow ∧ w.weightHigh = r.weightHigh)
        ∧ (r.bandPresence = 0 → w.weightLow = 0 ∧ w.weightHigh = 0))

/-- R173: the check starts at FFFFh and takes each byte in the order sent: the byte joins the high-order 8 bits by
exclusive-or, then eight times the register shifts left by one and, where the bit shifted out is 1, takes 8005h. Over the nine
bytes 31h to 39h it is AEE7h. A frame carries it behind the last body byte, low byte first. -/
def Obligations.FrameCheckFollowsThePolynomial : Prop :=
  let shift : Word16 → Word16 := fun r => if r.getLsbD 15 then (r <<< 1) ^^^ 0x8005 else r <<< 1
  crc [] = 0xFFFF
  ∧ (∀ (l : List Byte) (b : Byte), crc (l ++ [b]) = shift^[8] (crc l ^^^ (b.setWidth 16 <<< 8)))
  ∧ crc [0x31, 0x32, 0x33, 0x34, 0x35, 0x36, 0x37, 0x38, 0x39] = 0xAEE7
  ∧ (∀ f : Frame,
      let checked := n8 (f.body.length + 2) :: f.kind :: f.tag :: f.body
      frameBytes f
        = [0xC3] ++ checked ++ [(crc checked).extractLsb' 0 8, (crc checked).extractLsb' 8 8])

/-! ### Invariants -/

/-- The reset state is well formed. -/
def Obligations.ResetIsWellFormed : Prop :=
  State.reset.position.wf = true ∧ State.reset.line.wf = true ∧ State.reset.link.wf = true
    ∧ State.reset.gas.tareQueue.Nodup

/-- Every step keeps the position counter in the ranges of Table 1.1, with the step count at 0 in UNSYNCED and FAULTED and
the overspeed run above 0 exactly in an open episode. -/
def Obligations.EveryStepKeepsThePositionCounterInRange : Prop :=
  ∀ s t : State, s.position.wf = true → step s = .next t → t.position.wf = true

/-- Every step keeps the run permit at that of the line state, the line in HALT or STOPPED while the latch is set, the drain
cause in DRAIN alone, the sync timer in STARTING alone, and a halt record in HALT. -/
def Obligations.EveryStepKeepsTheInterlock : Prop :=
  ∀ s t : State, s.line.wf = true → step s = .next t → t.line.wf = true

/-- Every step keeps the report queue at 32 reports at most, held by level, highest first, and each channel at most once in
the tare queue (R62). -/
def Obligations.EveryStepKeepsTheReportAndTareQueues : Prop :=
  (∀ s t : State, s.link.wf = true → step s = .next t → t.link.wf = true)
  ∧ (∀ s t : State, s.gas.tareQueue.Nodup → step s = .next t → t.gas.tareQueue.Nodup)
end

