-- ==== Sys2Proof/Laws/State.lean ====
section
/-! SUPPORT. What each named update of the state writes and leaves, field by field, so that no proof unfolds a record. -/

namespace Sys2Proof.Machine

variable (s : State)

/-! ### setPocket -/

@[simp] theorem setPocket_pending (p : PocketNo) (v : Pocket) : (setPocket p v s).pending = s.pending := rfl
@[simp] theorem setPocket_position (p : PocketNo) (v : Pocket) : (setPocket p v s).position = s.position := rfl
@[simp] theorem setPocket_infeedGate (p : PocketNo) (v : Pocket) : (setPocket p v s).infeedGate = s.infeedGate := rfl
@[simp] theorem setPocket_pockets (p : PocketNo) (v : Pocket) : (setPocket p v s).pockets = s.pockets.set p v := rfl
@[simp] theorem setPocket_gas (p : PocketNo) (v : Pocket) : (setPocket p v s).gas = s.gas := rfl
@[simp] theorem setPocket_crimp (p : PocketNo) (v : Pocket) : (setPocket p v s).crimp = s.crimp := rfl
@[simp] theorem setPocket_heads (p : PocketNo) (v : Pocket) : (setPocket p v s).heads = s.heads := rfl
@[simp] theorem setPocket_retirements (p : PocketNo) (v : Pocket) : (setPocket p v s).retirements = s.retirements := rfl
@[simp] theorem setPocket_trail (p : PocketNo) (v : Pocket) : (setPocket p v s).trail = s.trail := rfl
@[simp] theorem setPocket_trace (p : PocketNo) (v : Pocket) : (setPocket p v s).trace = s.trace := rfl
@[simp] theorem setPocket_recipes (p : PocketNo) (v : Pocket) : (setPocket p v s).recipes = s.recipes := rfl
@[simp] theorem setPocket_lots (p : PocketNo) (v : Pocket) : (setPocket p v s).lots = s.lots := rfl
@[simp] theorem setPocket_line (p : PocketNo) (v : Pocket) : (setPocket p v s).line = s.line := rfl
@[simp] theorem setPocket_config (p : PocketNo) (v : Pocket) : (setPocket p v s).config = s.config := rfl
@[simp] theorem setPocket_link (p : PocketNo) (v : Pocket) : (setPocket p v s).link = s.link := rfl
@[simp] theorem setPocket_inputs (p : PocketNo) (v : Pocket) : (setPocket p v s).inputs = s.inputs := rfl
@[simp] theorem setPocket_timebase (p : PocketNo) (v : Pocket) : (setPocket p v s).timebase = s.timebase := rfl
@[simp] theorem setPocket_freeIx (p : PocketNo) (v : Pocket) : (setPocket p v s).freeIx = s.freeIx := rfl

/-! ### setCrimp -/

@[simp] theorem setCrimp_pending (p : PocketNo) (v : CrimpHead) : (setCrimp p v s).pending = s.pending := rfl
@[simp] theorem setCrimp_position (p : PocketNo) (v : CrimpHead) : (setCrimp p v s).position = s.position := rfl
@[simp] theorem setCrimp_infeedGate (p : PocketNo) (v : CrimpHead) : (setCrimp p v s).infeedGate = s.infeedGate := rfl
@[simp] theorem setCrimp_pockets (p : PocketNo) (v : CrimpHead) : (setCrimp p v s).pockets = s.pockets := rfl
@[simp] theorem setCrimp_gas (p : PocketNo) (v : CrimpHead) : (setCrimp p v s).gas = s.gas := rfl
@[simp] theorem setCrimp_crimp (p : PocketNo) (v : CrimpHead) : (setCrimp p v s).crimp = s.crimp.set p v := rfl
@[simp] theorem setCrimp_heads (p : PocketNo) (v : CrimpHead) : (setCrimp p v s).heads = s.heads := rfl
@[simp] theorem setCrimp_retirements (p : PocketNo) (v : CrimpHead) :
    (setCrimp p v s).retirements = s.retirements := rfl
@[simp] theorem setCrimp_trail (p : PocketNo) (v : CrimpHead) : (setCrimp p v s).trail = s.trail := rfl
@[simp] theorem setCrimp_trace (p : PocketNo) (v : CrimpHead) : (setCrimp p v s).trace = s.trace := rfl
@[simp] theorem setCrimp_recipes (p : PocketNo) (v : CrimpHead) : (setCrimp p v s).recipes = s.recipes := rfl
@[simp] theorem setCrimp_lots (p : PocketNo) (v : CrimpHead) : (setCrimp p v s).lots = s.lots := rfl
@[simp] theorem setCrimp_line (p : PocketNo) (v : CrimpHead) : (setCrimp p v s).line = s.line := rfl
@[simp] theorem setCrimp_config (p : PocketNo) (v : CrimpHead) : (setCrimp p v s).config = s.config := rfl
@[simp] theorem setCrimp_link (p : PocketNo) (v : CrimpHead) : (setCrimp p v s).link = s.link := rfl
@[simp] theorem setCrimp_inputs (p : PocketNo) (v : CrimpHead) : (setCrimp p v s).inputs = s.inputs := rfl
@[simp] theorem setCrimp_timebase (p : PocketNo) (v : CrimpHead) : (setCrimp p v s).timebase = s.timebase := rfl
@[simp] theorem setCrimp_freeIx (p : PocketNo) (v : CrimpHead) : (setCrimp p v s).freeIx = s.freeIx := rfl

/-! ### setHead -/

@[simp] theorem setHead_pending (p : PocketNo) (v : Head) : (setHead p v s).pending = s.pending := rfl
@[simp] theorem setHead_position (p : PocketNo) (v : Head) : (setHead p v s).position = s.position := rfl
@[simp] theorem setHead_infeedGate (p : PocketNo) (v : Head) : (setHead p v s).infeedGate = s.infeedGate := rfl
@[simp] theorem setHead_pockets (p : PocketNo) (v : Head) : (setHead p v s).pockets = s.pockets := rfl
@[simp] theorem setHead_gas (p : PocketNo) (v : Head) : (setHead p v s).gas = s.gas := rfl
@[simp] theorem setHead_crimp (p : PocketNo) (v : Head) : (setHead p v s).crimp = s.crimp := rfl
@[simp] theorem setHead_heads (p : PocketNo) (v : Head) : (setHead p v s).heads = s.heads.set p v := rfl
@[simp] theorem setHead_retirements (p : PocketNo) (v : Head) : (setHead p v s).retirements = s.retirements := rfl
@[simp] theorem setHead_trail (p : PocketNo) (v : Head) : (setHead p v s).trail = s.trail := rfl
@[simp] theorem setHead_trace (p : PocketNo) (v : Head) : (setHead p v s).trace = s.trace := rfl
@[simp] theorem setHead_recipes (p : PocketNo) (v : Head) : (setHead p v s).recipes = s.recipes := rfl
@[simp] theorem setHead_lots (p : PocketNo) (v : Head) : (setHead p v s).lots = s.lots := rfl
@[simp] theorem setHead_line (p : PocketNo) (v : Head) : (setHead p v s).line = s.line := rfl
@[simp] theorem setHead_config (p : PocketNo) (v : Head) : (setHead p v s).config = s.config := rfl
@[simp] theorem setHead_link (p : PocketNo) (v : Head) : (setHead p v s).link = s.link := rfl
@[simp] theorem setHead_inputs (p : PocketNo) (v : Head) : (setHead p v s).inputs = s.inputs := rfl
@[simp] theorem setHead_timebase (p : PocketNo) (v : Head) : (setHead p v s).timebase = s.timebase := rfl
@[simp] theorem setHead_freeIx (p : PocketNo) (v : Head) : (setHead p v s).freeIx = s.freeIx := rfl

/-! ### setChannel -/

@[simp] theorem setChannel_pending (c : ChannelNo) (v : Channel) : (setChannel c v s).pending = s.pending := rfl
@[simp] theorem setChannel_position (c : ChannelNo) (v : Channel) : (setChannel c v s).position = s.position := rfl
@[simp] theorem setChannel_infeedGate (c : ChannelNo) (v : Channel) :
    (setChannel c v s).infeedGate = s.infeedGate := rfl
@[simp] theorem setChannel_pockets (c : ChannelNo) (v : Channel) : (setChannel c v s).pockets = s.pockets := rfl
@[simp] theorem setChannel_gas (c : ChannelNo) (v : Channel) :
    (setChannel c v s).gas = { s.gas with channels := s.gas.channels.set c v } := rfl
@[simp] theorem setChannel_crimp (c : ChannelNo) (v : Channel) : (setChannel c v s).crimp = s.crimp := rfl
@[simp] theorem setChannel_heads (c : ChannelNo) (v : Channel) : (setChannel c v s).heads = s.heads := rfl
@[simp] theorem setChannel_retirements (c : ChannelNo) (v : Channel) :
    (setChannel c v s).retirements = s.retirements := rfl
@[simp] theorem setChannel_trail (c : ChannelNo) (v : Channel) : (setChannel c v s).trail = s.trail := rfl
@[simp] theorem setChannel_trace (c : ChannelNo) (v : Channel) : (setChannel c v s).trace = s.trace := rfl
@[simp] theorem setChannel_recipes (c : ChannelNo) (v : Channel) : (setChannel c v s).recipes = s.recipes := rfl
@[simp] theorem setChannel_lots (c : ChannelNo) (v : Channel) : (setChannel c v s).lots = s.lots := rfl
@[simp] theorem setChannel_line (c : ChannelNo) (v : Channel) : (setChannel c v s).line = s.line := rfl
@[simp] theorem setChannel_config (c : ChannelNo) (v : Channel) : (setChannel c v s).config = s.config := rfl
@[simp] theorem setChannel_link (c : ChannelNo) (v : Channel) : (setChannel c v s).link = s.link := rfl
@[simp] theorem setChannel_inputs (c : ChannelNo) (v : Channel) : (setChannel c v s).inputs = s.inputs := rfl
@[simp] theorem setChannel_timebase (c : ChannelNo) (v : Channel) : (setChannel c v s).timebase = s.timebase := rfl
@[simp] theorem setChannel_freeIx (c : ChannelNo) (v : Channel) : (setChannel c v s).freeIx = s.freeIx := rfl

/-! ### setSelector -/

@[simp] theorem setSelector_pending (p : PocketNo) (v : Option ChannelNo) :
    (setSelector p v s).pending = s.pending := rfl
@[simp] theorem setSelector_position (p : PocketNo) (v : Option ChannelNo) :
    (setSelector p v s).position = s.position := rfl
@[simp] theorem setSelector_infeedGate (p : PocketNo) (v : Option ChannelNo) :
    (setSelector p v s).infeedGate = s.infeedGate := rfl
@[simp] theorem setSelector_pockets (p : PocketNo) (v : Option ChannelNo) :
    (setSelector p v s).pockets = s.pockets := rfl
@[simp] theorem setSelector_gas (p : PocketNo) (v : Option ChannelNo) :
    (setSelector p v s).gas = { s.gas with selectors := s.gas.selectors.set p v } := rfl
@[simp] theorem setSelector_crimp (p : PocketNo) (v : Option ChannelNo) : (setSelector p v s).crimp = s.crimp := rfl
@[simp] theorem setSelector_heads (p : PocketNo) (v : Option ChannelNo) : (setSelector p v s).heads = s.heads := rfl
@[simp] theorem setSelector_retirements (p : PocketNo) (v : Option ChannelNo) :
    (setSelector p v s).retirements = s.retirements := rfl
@[simp] theorem setSelector_trail (p : PocketNo) (v : Option ChannelNo) : (setSelector p v s).trail = s.trail := rfl
@[simp] theorem setSelector_trace (p : PocketNo) (v : Option ChannelNo) : (setSelector p v s).trace = s.trace := rfl
@[simp] theorem setSelector_recipes (p : PocketNo) (v : Option ChannelNo) :
    (setSelector p v s).recipes = s.recipes := rfl
@[simp] theorem setSelector_lots (p : PocketNo) (v : Option ChannelNo) : (setSelector p v s).lots = s.lots := rfl
@[simp] theorem setSelector_line (p : PocketNo) (v : Option ChannelNo) : (setSelector p v s).line = s.line := rfl
@[simp] theorem setSelector_config (p : PocketNo) (v : Option ChannelNo) : (setSelector p v s).config = s.config := rfl
@[simp] theorem setSelector_link (p : PocketNo) (v : Option ChannelNo) : (setSelector p v s).link = s.link := rfl
@[simp] theorem setSelector_inputs (p : PocketNo) (v : Option ChannelNo) : (setSelector p v s).inputs = s.inputs := rfl
@[simp] theorem setSelector_timebase (p : PocketNo) (v : Option ChannelNo) :
    (setSelector p v s).timebase = s.timebase := rfl
@[simp] theorem setSelector_freeIx (p : PocketNo) (v : Option ChannelNo) : (setSelector p v s).freeIx = s.freeIx := rfl

/-! ### modifyPocket -/

@[simp] theorem modifyPocket_pending (p : PocketNo) (f : Pocket → Pocket) :
    (modifyPocket p f s).pending = s.pending := rfl
@[simp] theorem modifyPocket_position (p : PocketNo) (f : Pocket → Pocket) :
    (modifyPocket p f s).position = s.position := rfl
@[simp] theorem modifyPocket_infeedGate (p : PocketNo) (f : Pocket → Pocket) :
    (modifyPocket p f s).infeedGate = s.infeedGate := rfl
@[simp] theorem modifyPocket_pockets (p : PocketNo) (f : Pocket → Pocket) :
    (modifyPocket p f s).pockets = s.pockets.set p (f s.pockets[p]) := rfl
@[simp] theorem modifyPocket_gas (p : PocketNo) (f : Pocket → Pocket) : (modifyPocket p f s).gas = s.gas := rfl
@[simp] theorem modifyPocket_crimp (p : PocketNo) (f : Pocket → Pocket) : (modifyPocket p f s).crimp = s.crimp := rfl
@[simp] theorem modifyPocket_heads (p : PocketNo) (f : Pocket → Pocket) : (modifyPocket p f s).heads = s.heads := rfl
@[simp] theorem modifyPocket_retirements (p : PocketNo) (f : Pocket → Pocket) :
    (modifyPocket p f s).retirements = s.retirements := rfl
@[simp] theorem modifyPocket_trail (p : PocketNo) (f : Pocket → Pocket) : (modifyPocket p f s).trail = s.trail := rfl
@[simp] theorem modifyPocket_trace (p : PocketNo) (f : Pocket → Pocket) : (modifyPocket p f s).trace = s.trace := rfl
@[simp] theorem modifyPocket_recipes (p : PocketNo) (f : Pocket → Pocket) :
    (modifyPocket p f s).recipes = s.recipes := rfl
@[simp] theorem modifyPocket_lots (p : PocketNo) (f : Pocket → Pocket) : (modifyPocket p f s).lots = s.lots := rfl
@[simp] theorem modifyPocket_line (p : PocketNo) (f : Pocket → Pocket) : (modifyPocket p f s).line = s.line := rfl
@[simp] theorem modifyPocket_config (p : PocketNo) (f : Pocket → Pocket) : (modifyPocket p f s).config = s.config := rfl
@[simp] theorem modifyPocket_link (p : PocketNo) (f : Pocket → Pocket) : (modifyPocket p f s).link = s.link := rfl
@[simp] theorem modifyPocket_inputs (p : PocketNo) (f : Pocket → Pocket) : (modifyPocket p f s).inputs = s.inputs := rfl
@[simp] theorem modifyPocket_timebase (p : PocketNo) (f : Pocket → Pocket) :
    (modifyPocket p f s).timebase = s.timebase := rfl
@[simp] theorem modifyPocket_freeIx (p : PocketNo) (f : Pocket → Pocket) : (modifyPocket p f s).freeIx = s.freeIx := rfl

/-! ### modifyCrimp -/

@[simp] theorem modifyCrimp_pending (p : PocketNo) (f : CrimpHead → CrimpHead) :
    (modifyCrimp p f s).pending = s.pending := rfl
@[simp] theorem modifyCrimp_position (p : PocketNo) (f : CrimpHead → CrimpHead) :
    (modifyCrimp p f s).position = s.position := rfl
@[simp] theorem modifyCrimp_infeedGate (p : PocketNo) (f : CrimpHead → CrimpHead) :
    (modifyCrimp p f s).infeedGate = s.infeedGate := rfl
@[simp] theorem modifyCrimp_pockets (p : PocketNo) (f : CrimpHead → CrimpHead) :
    (modifyCrimp p f s).pockets = s.pockets := rfl
@[simp] theorem modifyCrimp_gas (p : PocketNo) (f : CrimpHead → CrimpHead) : (modifyCrimp p f s).gas = s.gas := rfl
@[simp] theorem modifyCrimp_crimp (p : PocketNo) (f : CrimpHead → CrimpHead) :
    (modifyCrimp p f s).crimp = s.crimp.set p (f s.crimp[p]) := rfl
@[simp] theorem modifyCrimp_heads (p : PocketNo) (f : CrimpHead → CrimpHead) :
    (modifyCrimp p f s).heads = s.heads := rfl
@[simp] theorem modifyCrimp_retirements (p : PocketNo) (f : CrimpHead → CrimpHead) :
    (modifyCrimp p f s).retirements = s.retirements := rfl
@[simp] theorem modifyCrimp_trail (p : PocketNo) (f : CrimpHead → CrimpHead) :
    (modifyCrimp p f s).trail = s.trail := rfl
@[simp] theorem modifyCrimp_trace (p : PocketNo) (f : CrimpHead → CrimpHead) :
    (modifyCrimp p f s).trace = s.trace := rfl
@[simp] theorem modifyCrimp_recipes (p : PocketNo) (f : CrimpHead → CrimpHead) :
    (modifyCrimp p f s).recipes = s.recipes := rfl
@[simp] theorem modifyCrimp_lots (p : PocketNo) (f : CrimpHead → CrimpHead) : (modifyCrimp p f s).lots = s.lots := rfl
@[simp] theorem modifyCrimp_line (p : PocketNo) (f : CrimpHead → CrimpHead) : (modifyCrimp p f s).line = s.line := rfl
@[simp] theorem modifyCrimp_config (p : PocketNo) (f : CrimpHead → CrimpHead) :
    (modifyCrimp p f s).config = s.config := rfl
@[simp] theorem modifyCrimp_link (p : PocketNo) (f : CrimpHead → CrimpHead) : (modifyCrimp p f s).link = s.link := rfl
@[simp] theorem modifyCrimp_inputs (p : PocketNo) (f : CrimpHead → CrimpHead) :
    (modifyCrimp p f s).inputs = s.inputs := rfl
@[simp] theorem modifyCrimp_timebase (p : PocketNo) (f : CrimpHead → CrimpHead) :
    (modifyCrimp p f s).timebase = s.timebase := rfl
@[simp] theorem modifyCrimp_freeIx (p : PocketNo) (f : CrimpHead → CrimpHead) :
    (modifyCrimp p f s).freeIx = s.freeIx := rfl

/-! ### modifyChannel -/

@[simp] theorem modifyChannel_pending (c : ChannelNo) (f : Channel → Channel) :
    (modifyChannel c f s).pending = s.pending := rfl
@[simp] theorem modifyChannel_position (c : ChannelNo) (f : Channel → Channel) :
    (modifyChannel c f s).position = s.position := rfl
@[simp] theorem modifyChannel_infeedGate (c : ChannelNo) (f : Channel → Channel) :
    (modifyChannel c f s).infeedGate = s.infeedGate := rfl
@[simp] theorem modifyChannel_pockets (c : ChannelNo) (f : Channel → Channel) :
    (modifyChannel c f s).pockets = s.pockets := rfl
@[simp] theorem modifyChannel_gas (c : ChannelNo) (f : Channel → Channel) :
    (modifyChannel c f s).gas = { s.gas with channels := s.gas.channels.set c (f s.gas.channels[c]) } := rfl
@[simp] theorem modifyChannel_crimp (c : ChannelNo) (f : Channel → Channel) :
    (modifyChannel c f s).crimp = s.crimp := rfl
@[simp] theorem modifyChannel_heads (c : ChannelNo) (f : Channel → Channel) :
    (modifyChannel c f s).heads = s.heads := rfl
@[simp] theorem modifyChannel_retirements (c : ChannelNo) (f : Channel → Channel) :
    (modifyChannel c f s).retirements = s.retirements := rfl
@[simp] theorem modifyChannel_trail (c : ChannelNo) (f : Channel → Channel) :
    (modifyChannel c f s).trail = s.trail := rfl
@[simp] theorem modifyChannel_trace (c : ChannelNo) (f : Channel → Channel) :
    (modifyChannel c f s).trace = s.trace := rfl
@[simp] theorem modifyChannel_recipes (c : ChannelNo) (f : Channel → Channel) :
    (modifyChannel c f s).recipes = s.recipes := rfl
@[simp] theorem modifyChannel_lots (c : ChannelNo) (f : Channel → Channel) : (modifyChannel c f s).lots = s.lots := rfl
@[simp] theorem modifyChannel_line (c : ChannelNo) (f : Channel → Channel) : (modifyChannel c f s).line = s.line := rfl
@[simp] theorem modifyChannel_config (c : ChannelNo) (f : Channel → Channel) :
    (modifyChannel c f s).config = s.config := rfl
@[simp] theorem modifyChannel_link (c : ChannelNo) (f : Channel → Channel) : (modifyChannel c f s).link = s.link := rfl
@[simp] theorem modifyChannel_inputs (c : ChannelNo) (f : Channel → Channel) :
    (modifyChannel c f s).inputs = s.inputs := rfl
@[simp] theorem modifyChannel_timebase (c : ChannelNo) (f : Channel → Channel) :
    (modifyChannel c f s).timebase = s.timebase := rfl
@[simp] theorem modifyChannel_freeIx (c : ChannelNo) (f : Channel → Channel) :
    (modifyChannel c f s).freeIx = s.freeIx := rfl

/-! ### refreshLamp -/

@[simp] theorem refreshLamp_pending : (refreshLamp s).pending = s.pending := rfl
@[simp] theorem refreshLamp_position : (refreshLamp s).position = s.position := rfl
@[simp] theorem refreshLamp_infeedGate : (refreshLamp s).infeedGate = s.infeedGate := rfl
@[simp] theorem refreshLamp_pockets : (refreshLamp s).pockets = s.pockets := rfl
@[simp] theorem refreshLamp_gas : (refreshLamp s).gas = s.gas := rfl
@[simp] theorem refreshLamp_crimp : (refreshLamp s).crimp = s.crimp := rfl
@[simp] theorem refreshLamp_heads : (refreshLamp s).heads = s.heads := rfl
@[simp] theorem refreshLamp_retirements : (refreshLamp s).retirements = s.retirements := rfl
@[simp] theorem refreshLamp_trail : (refreshLamp s).trail = s.trail := rfl
@[simp] theorem refreshLamp_trace : (refreshLamp s).trace = s.trace := rfl
@[simp] theorem refreshLamp_recipes : (refreshLamp s).recipes = s.recipes := rfl
@[simp] theorem refreshLamp_lots : (refreshLamp s).lots = s.lots := rfl
@[simp] theorem refreshLamp_line :
    (refreshLamp s).line = { s.line with lamp := lampOf s.line.state s.line.latch.isSome s.line.safe } := rfl
@[simp] theorem refreshLamp_config : (refreshLamp s).config = s.config := rfl
@[simp] theorem refreshLamp_link : (refreshLamp s).link = s.link := rfl
@[simp] theorem refreshLamp_inputs : (refreshLamp s).inputs = s.inputs := rfl
@[simp] theorem refreshLamp_timebase : (refreshLamp s).timebase = s.timebase := rfl
@[simp] theorem refreshLamp_freeIx : (refreshLamp s).freeIx = s.freeIx := rfl

/-! ### refreshCeiling -/

@[simp] theorem refreshCeiling_pending : (refreshCeiling s).pending = s.pending := rfl
@[simp] theorem refreshCeiling_position :
    (refreshCeiling s).position = { s.position with speedCeiling := ceilingOf s } := rfl
@[simp] theorem refreshCeiling_infeedGate : (refreshCeiling s).infeedGate = s.infeedGate := rfl
@[simp] theorem refreshCeiling_pockets : (refreshCeiling s).pockets = s.pockets := rfl
@[simp] theorem refreshCeiling_gas : (refreshCeiling s).gas = s.gas := rfl
@[simp] theorem refreshCeiling_crimp : (refreshCeiling s).crimp = s.crimp := rfl
@[simp] theorem refreshCeiling_heads : (refreshCeiling s).heads = s.heads := rfl
@[simp] theorem refreshCeiling_retirements : (refreshCeiling s).retirements = s.retirements := rfl
@[simp] theorem refreshCeiling_trail : (refreshCeiling s).trail = s.trail := rfl
@[simp] theorem refreshCeiling_trace : (refreshCeiling s).trace = s.trace := rfl
@[simp] theorem refreshCeiling_recipes : (refreshCeiling s).recipes = s.recipes := rfl
@[simp] theorem refreshCeiling_lots : (refreshCeiling s).lots = s.lots := rfl
@[simp] theorem refreshCeiling_line : (refreshCeiling s).line = s.line := rfl
@[simp] theorem refreshCeiling_config : (refreshCeiling s).config = s.config := rfl
@[simp] theorem refreshCeiling_link : (refreshCeiling s).link = s.link := rfl
@[simp] theorem refreshCeiling_inputs : (refreshCeiling s).inputs = s.inputs := rfl
@[simp] theorem refreshCeiling_timebase : (refreshCeiling s).timebase = s.timebase := rfl
@[simp] theorem refreshCeiling_freeIx : (refreshCeiling s).freeIx = s.freeIx := rfl

/-! ### setLine -/

@[simp] theorem setLine_pending (after : LineState) (drain : Option DrainCause) :
    (setLine after drain s).pending = s.pending := rfl
@[simp] theorem setLine_position (after : LineState) (drain : Option DrainCause) :
    (setLine after drain s).position = { s.position with stallTimer := stallAfter (permitIn after) s } := rfl
@[simp] theorem setLine_infeedGate (after : LineState) (drain : Option DrainCause) :
    (setLine after drain s).infeedGate = s.infeedGate := rfl
@[simp] theorem setLine_pockets (after : LineState) (drain : Option DrainCause) :
    (setLine after drain s).pockets = s.pockets := rfl
@[simp] theorem setLine_gas (after : LineState) (drain : Option DrainCause) : (setLine after drain s).gas = s.gas := rfl
@[simp] theorem setLine_crimp (after : LineState) (drain : Option DrainCause) :
    (setLine after drain s).crimp = s.crimp := rfl
@[simp] theorem setLine_heads (after : LineState) (drain : Option DrainCause) :
    (setLine after drain s).heads = s.heads := rfl
@[simp] theorem setLine_retirements (after : LineState) (drain : Option DrainCause) :
    (setLine after drain s).retirements = s.retirements := rfl
@[simp] theorem setLine_trail (after : LineState) (drain : Option DrainCause) :
    (setLine after drain s).trail = s.trail := rfl
@[simp] theorem setLine_trace (after : LineState) (drain : Option DrainCause) :
    (setLine after drain s).trace = s.trace := rfl
@[simp] theorem setLine_recipes (after : LineState) (drain : Option DrainCause) :
    (setLine after drain s).recipes = s.recipes := rfl
@[simp] theorem setLine_lots (after : LineState) (drain : Option DrainCause) :
    (setLine after drain s).lots = s.lots := rfl
@[simp] theorem setLine_line (after : LineState) (drain : Option DrainCause) :
    (setLine after drain s).line =
      { s.line with
        state := after, runPermit := permitIn after, drainCause := drain,
        syncTimer := if after = .starting then s.line.syncTimer else none } := rfl
@[simp] theorem setLine_config (after : LineState) (drain : Option DrainCause) :
    (setLine after drain s).config = s.config := rfl
@[simp] theorem setLine_link (after : LineState) (drain : Option DrainCause) :
    (setLine after drain s).link = s.link := rfl
@[simp] theorem setLine_inputs (after : LineState) (drain : Option DrainCause) :
    (setLine after drain s).inputs = s.inputs := rfl
@[simp] theorem setLine_timebase (after : LineState) (drain : Option DrainCause) :
    (setLine after drain s).timebase = s.timebase := rfl
@[simp] theorem setLine_freeIx (after : LineState) (drain : Option DrainCause) :
    (setLine after drain s).freeIx = s.freeIx := rfl

/-! ### setPort -/

@[simp] theorem setPort_pending (port : Port) (v : PortState) : (setPort port v s).pending = s.pending := by
  cases port <;> rfl
@[simp] theorem setPort_position (port : Port) (v : PortState) : (setPort port v s).position = s.position := by
  cases port <;> rfl
@[simp] theorem setPort_infeedGate (port : Port) (v : PortState) : (setPort port v s).infeedGate = s.infeedGate := by
  cases port <;> rfl
@[simp] theorem setPort_pockets (port : Port) (v : PortState) : (setPort port v s).pockets = s.pockets := by
  cases port <;> rfl
@[simp] theorem setPort_gas (port : Port) (v : PortState) : (setPort port v s).gas = s.gas := by cases port <;> rfl
@[simp] theorem setPort_crimp (port : Port) (v : PortState) : (setPort port v s).crimp = s.crimp := by
  cases port <;> rfl
@[simp] theorem setPort_heads (port : Port) (v : PortState) : (setPort port v s).heads = s.heads := by
  cases port <;> rfl
@[simp] theorem setPort_retirements (port : Port) (v : PortState) : (setPort port v s).retirements = s.retirements := by
  cases port <;> rfl
@[simp] theorem setPort_trail (port : Port) (v : PortState) : (setPort port v s).trail = s.trail := by
  cases port <;> rfl
@[simp] theorem setPort_trace (port : Port) (v : PortState) : (setPort port v s).trace = s.trace := by
  cases port <;> rfl
@[simp] theorem setPort_recipes (port : Port) (v : PortState) : (setPort port v s).recipes = s.recipes := by
  cases port <;> rfl
@[simp] theorem setPort_lots (port : Port) (v : PortState) : (setPort port v s).lots = s.lots := by cases port <;> rfl
@[simp] theorem setPort_line (port : Port) (v : PortState) : (setPort port v s).line = s.line := by cases port <;> rfl
@[simp] theorem setPort_config (port : Port) (v : PortState) : (setPort port v s).config = s.config := by
  cases port <;> rfl
@[simp] theorem setPort_inputs (port : Port) (v : PortState) : (setPort port v s).inputs = s.inputs := by
  cases port <;> rfl
@[simp] theorem setPort_timebase (port : Port) (v : PortState) : (setPort port v s).timebase = s.timebase := by
  cases port <;> rfl
@[simp] theorem setPort_freeIx (port : Port) (v : PortState) : (setPort port v s).freeIx = s.freeIx := by
  cases port <;> rfl
@[simp] theorem setPort_reports (port : Port) (v : PortState) : (setPort port v s).link.reports = s.link.reports := by
  cases port <;> rfl
@[simp] theorem setPort_dropped (port : Port) (v : PortState) : (setPort port v s).link.dropped = s.link.dropped := by
  cases port <;> rfl
@[simp] theorem portOf_setPort_same (port : Port) (v : PortState) : portOf port (setPort port v s) = v := by
  cases port <;> rfl
@[simp] theorem portOf_service_setPort_line (v : PortState) :
    portOf .service (setPort .line v s) = portOf .service s := rfl
@[simp] theorem portOf_line_setPort_service (v : PortState) :
    portOf .line (setPort .service v s) = portOf .line s := rfl
@[simp] theorem setPort_setPort (port : Port) (v w : PortState) : setPort port w (setPort port v s) = setPort port w s := by
  cases port <;> rfl

end Sys2Proof.Machine
end

