-- ==== Sys2Proof/Laws/Reports.lean ====
section
/-! SUPPORT. What handing over a report (R180, R181) and the end of a command (R166, R178, R179) can do. -/

namespace Sys2Proof.Machine

variable (s : State)

/-! ### sendReport -/

/-- A report changes the report queue and the dropped count alone. -/
theorem sendReport_eq (r : Report) (s : State) :
    sendReport r s = { s with link := { s.link with
      reports := (sendReport r s).link.reports, dropped := (sendReport r s).link.dropped } } := by
  unfold sendReport queueReport
  split
  · split
    · rfl
    · split
      · split <;> rfl
      · rfl
  · rfl

@[simp] theorem sendReport_pending (r : Report) : (sendReport r s).pending = s.pending := by rw [sendReport_eq]
@[simp] theorem sendReport_position (r : Report) : (sendReport r s).position = s.position := by rw [sendReport_eq]
@[simp] theorem sendReport_infeedGate (r : Report) : (sendReport r s).infeedGate = s.infeedGate := by rw [sendReport_eq]
@[simp] theorem sendReport_pockets (r : Report) : (sendReport r s).pockets = s.pockets := by rw [sendReport_eq]
@[simp] theorem sendReport_gas (r : Report) : (sendReport r s).gas = s.gas := by rw [sendReport_eq]
@[simp] theorem sendReport_crimp (r : Report) : (sendReport r s).crimp = s.crimp := by rw [sendReport_eq]
@[simp] theorem sendReport_heads (r : Report) : (sendReport r s).heads = s.heads := by rw [sendReport_eq]
@[simp] theorem sendReport_retirements (r : Report) : (sendReport r s).retirements = s.retirements := by
  rw [sendReport_eq]
@[simp] theorem sendReport_trail (r : Report) : (sendReport r s).trail = s.trail := by rw [sendReport_eq]
@[simp] theorem sendReport_trace (r : Report) : (sendReport r s).trace = s.trace := by rw [sendReport_eq]
@[simp] theorem sendReport_recipes (r : Report) : (sendReport r s).recipes = s.recipes := by rw [sendReport_eq]
@[simp] theorem sendReport_lots (r : Report) : (sendReport r s).lots = s.lots := by rw [sendReport_eq]
@[simp] theorem sendReport_line (r : Report) : (sendReport r s).line = s.line := by rw [sendReport_eq]
@[simp] theorem sendReport_config (r : Report) : (sendReport r s).config = s.config := by rw [sendReport_eq]
@[simp] theorem sendReport_inputs (r : Report) : (sendReport r s).inputs = s.inputs := by rw [sendReport_eq]
@[simp] theorem sendReport_timebase (r : Report) : (sendReport r s).timebase = s.timebase := by rw [sendReport_eq]
@[simp] theorem sendReport_freeIx (r : Report) : (sendReport r s).freeIx = s.freeIx := by rw [sendReport_eq]
@[simp] theorem sendReport_linePort (r : Report) : (sendReport r s).link.linePort = s.link.linePort := by
  rw [sendReport_eq]
@[simp] theorem sendReport_servicePort (r : Report) : (sendReport r s).link.servicePort = s.link.servicePort := by
  rw [sendReport_eq]
@[simp] theorem sendReport_maskTrace (r : Report) : (sendReport r s).link.maskTrace = s.link.maskTrace := by
  rw [sendReport_eq]
@[simp] theorem sendReport_maskLot (r : Report) : (sendReport r s).link.maskLot = s.link.maskLot := by
  rw [sendReport_eq]
@[simp] theorem sendReport_maskFault (r : Report) : (sendReport r s).link.maskFault = s.link.maskFault := by
  rw [sendReport_eq]
@[simp] theorem sendReport_portOf (r : Report) (port : Port) : portOf port (sendReport r s) = portOf port s := by
  cases port <;> simp [portOf]

theorem length_insertReport (r : Report) (l : List Report) : (insertReport r l).length = l.length + 1 := by
  induction l with
  | nil => rfl
  | cons q rest ih => simp only [insertReport]; split <;> simp [ih]

theorem mem_insertReport (r a : Report) (l : List Report) : a ∈ insertReport r l ↔ a = r ∨ a ∈ l := by
  induction l with
  | nil => simp [insertReport]
  | cons q rest ih =>
    simp only [insertReport]
    split
    · simp only [List.mem_cons, ih]; tauto
    · simp only [List.mem_cons]

/-- Inserting keeps the queue held by level, highest first (R180). -/
theorem sorted_insertReport (r : Report) (l : List Report)
    (h : l.Pairwise fun a b => reportLevel b ≤ reportLevel a) :
    (insertReport r l).Pairwise fun a b => reportLevel b ≤ reportLevel a := by
  induction l with
  | nil => simp [insertReport]
  | cons q rest ih =>
    have hq := List.pairwise_cons.mp h
    simp only [insertReport]
    split
    · rename_i hle
      refine List.pairwise_cons.mpr ⟨fun a ha => ?_, ih hq.2⟩
      rcases (mem_insertReport r a rest).mp ha with rfl | hm
      · exact hle
      · exact hq.1 a hm
    · rename_i hlt
      refine List.pairwise_cons.mpr ⟨fun a ha => ?_, h⟩
      rcases List.mem_cons.mp ha with rfl | hm
      · omega
      · have := hq.1 a hm; omega

/-- Handing over a report keeps the link controller well formed. -/
theorem sendReport_link_wf (r : Report) (h : s.link.wf = true) : (sendReport r s).link.wf = true := by
  simp only [LinkController.wf, Bool.and_eq_true, decide_eq_true_eq] at h ⊢
  obtain ⟨⟨hlen, hs⟩, hd⟩ := h
  have hsat : saturatingSucc 65535 s.link.dropped ≤ 65535 := by unfold saturatingSucc; split <;> omega
  unfold sendReport
  split
  · unfold queueReport
    split
    · exact ⟨⟨by simp only [length_insertReport]; omega, sorted_insertReport r _ hs⟩, hd⟩
    · split
      · split
        · refine ⟨⟨by simp only [length_insertReport, List.length_dropLast]; omega, ?_⟩, hsat⟩
          exact sorted_insertReport r _ (hs.sublist (List.dropLast_sublist _))
        · exact ⟨⟨hlen, hs⟩, hsat⟩
      · exact ⟨⟨hlen, hs⟩, hd⟩
  · exact ⟨⟨hlen, hs⟩, hd⟩

/-! ### finish -/

@[simp] theorem kickLine_pending : (kickLine s).pending = s.pending := by unfold kickLine; dsimp only; split <;> rfl
@[simp] theorem kickLine_position : (kickLine s).position = s.position := by unfold kickLine; dsimp only; split <;> rfl
@[simp] theorem kickLine_infeedGate : (kickLine s).infeedGate = s.infeedGate := by
  unfold kickLine; dsimp only; split <;> rfl
@[simp] theorem kickLine_pockets : (kickLine s).pockets = s.pockets := by unfold kickLine; dsimp only; split <;> rfl
@[simp] theorem kickLine_gas : (kickLine s).gas = s.gas := by unfold kickLine; dsimp only; split <;> rfl
@[simp] theorem kickLine_crimp : (kickLine s).crimp = s.crimp := by unfold kickLine; dsimp only; split <;> rfl
@[simp] theorem kickLine_heads : (kickLine s).heads = s.heads := by unfold kickLine; dsimp only; split <;> rfl
@[simp] theorem kickLine_retirements : (kickLine s).retirements = s.retirements := by
  unfold kickLine; dsimp only; split <;> rfl
@[simp] theorem kickLine_trail : (kickLine s).trail = s.trail := by unfold kickLine; dsimp only; split <;> rfl
@[simp] theorem kickLine_trace : (kickLine s).trace = s.trace := by unfold kickLine; dsimp only; split <;> rfl
@[simp] theorem kickLine_recipes : (kickLine s).recipes = s.recipes := by unfold kickLine; dsimp only; split <;> rfl
@[simp] theorem kickLine_lots : (kickLine s).lots = s.lots := by unfold kickLine; dsimp only; split <;> rfl
@[simp] theorem kickLine_line : (kickLine s).line = s.line := by unfold kickLine; dsimp only; split <;> rfl
@[simp] theorem kickLine_config : (kickLine s).config = s.config := by unfold kickLine; dsimp only; split <;> rfl
@[simp] theorem kickLine_inputs : (kickLine s).inputs = s.inputs := by unfold kickLine; dsimp only; split <;> rfl
@[simp] theorem kickLine_timebase : (kickLine s).timebase = s.timebase := by unfold kickLine; dsimp only; split <;> rfl
@[simp] theorem kickLine_freeIx : (kickLine s).freeIx = s.freeIx := by unfold kickLine; dsimp only; split <;> rfl
@[simp] theorem kickService_pending : (kickService s).pending = s.pending := by
  unfold kickService; dsimp only; split <;> rfl
@[simp] theorem kickService_position : (kickService s).position = s.position := by
  unfold kickService; dsimp only; split <;> rfl
@[simp] theorem kickService_infeedGate : (kickService s).infeedGate = s.infeedGate := by
  unfold kickService; dsimp only; split <;> rfl
@[simp] theorem kickService_pockets : (kickService s).pockets = s.pockets := by
  unfold kickService; dsimp only; split <;> rfl
@[simp] theorem kickService_gas : (kickService s).gas = s.gas := by unfold kickService; dsimp only; split <;> rfl
@[simp] theorem kickService_crimp : (kickService s).crimp = s.crimp := by unfold kickService; dsimp only; split <;> rfl
@[simp] theorem kickService_heads : (kickService s).heads = s.heads := by unfold kickService; dsimp only; split <;> rfl
@[simp] theorem kickService_retirements : (kickService s).retirements = s.retirements := by
  unfold kickService; dsimp only; split <;> rfl
@[simp] theorem kickService_trail : (kickService s).trail = s.trail := by unfold kickService; dsimp only; split <;> rfl
@[simp] theorem kickService_trace : (kickService s).trace = s.trace := by unfold kickService; dsimp only; split <;> rfl
@[simp] theorem kickService_recipes : (kickService s).recipes = s.recipes := by
  unfold kickService; dsimp only; split <;> rfl
@[simp] theorem kickService_lots : (kickService s).lots = s.lots := by unfold kickService; dsimp only; split <;> rfl
@[simp] theorem kickService_line : (kickService s).line = s.line := by unfold kickService; dsimp only; split <;> rfl
@[simp] theorem kickService_config : (kickService s).config = s.config := by
  unfold kickService; dsimp only; split <;> rfl
@[simp] theorem kickService_inputs : (kickService s).inputs = s.inputs := by
  unfold kickService; dsimp only; split <;> rfl
@[simp] theorem kickService_timebase : (kickService s).timebase = s.timebase := by
  unfold kickService; dsimp only; split <;> rfl
@[simp] theorem kickService_freeIx : (kickService s).freeIx = s.freeIx := by
  unfold kickService; dsimp only; split <;> rfl
@[simp] theorem finish_pending : (finish s).pending = s.pending := by simp [finish]
@[simp] theorem finish_position : (finish s).position = s.position := by simp [finish]
@[simp] theorem finish_infeedGate : (finish s).infeedGate = s.infeedGate := by simp [finish]
@[simp] theorem finish_pockets : (finish s).pockets = s.pockets := by simp [finish]
@[simp] theorem finish_gas : (finish s).gas = s.gas := by simp [finish]
@[simp] theorem finish_crimp : (finish s).crimp = s.crimp := by simp [finish]
@[simp] theorem finish_heads : (finish s).heads = s.heads := by simp [finish]
@[simp] theorem finish_retirements : (finish s).retirements = s.retirements := by simp [finish]
@[simp] theorem finish_trail : (finish s).trail = s.trail := by simp [finish]
@[simp] theorem finish_trace : (finish s).trace = s.trace := by simp [finish]
@[simp] theorem finish_recipes : (finish s).recipes = s.recipes := by simp [finish]
@[simp] theorem finish_lots : (finish s).lots = s.lots := by simp [finish]
@[simp] theorem finish_config : (finish s).config = s.config := by simp [finish]
@[simp] theorem finish_inputs : (finish s).inputs = s.inputs := by simp [finish]
@[simp] theorem finish_timebase : (finish s).timebase = s.timebase := by simp [finish]
@[simp] theorem finish_freeIx : (finish s).freeIx = s.freeIx := by simp [finish]
@[simp] theorem finish_line :
    (finish s).line = { s.line with lamp := lampOf s.line.state s.line.latch.isSome s.line.safe } := by simp [finish]

/-- The end of a command leaves the report mask. -/
theorem finish_masks : ((finish s).link.maskTrace, (finish s).link.maskLot, (finish s).link.maskFault)
    = (s.link.maskTrace, s.link.maskLot, s.link.maskFault) := by
  unfold finish kickService kickLine refreshLamp
  dsimp only
  repeat' first | rfl | split

theorem kickLine_link_wf (h : s.link.wf = true) : (kickLine s).link.wf = true := by
  unfold kickLine
  dsimp only
  split
  · exact h
  · rename_i hr
    simp only [LinkController.wf, Bool.and_eq_true, decide_eq_true_eq] at h ⊢
    rw [hr] at h
    simp only [List.length_cons, List.pairwise_cons] at h
    exact ⟨⟨by omega, h.1.2.2⟩, by omega⟩
  · exact h

theorem kickService_link_wf (h : s.link.wf = true) : (kickService s).link.wf = true := by
  unfold kickService
  dsimp only
  split
  · exact h
  · exact h

/-- The end of a command leaves the link controller well formed: at most it takes the head report from the queue. -/
theorem finish_link_wf (h : s.link.wf = true) : (finish s).link.wf = true :=
  kickService_link_wf _ (kickLine_link_wf _ h)

end Sys2Proof.Machine
end

