-- ==== Sys2Proof/Laws/Moves.lean ====
section
/-! SUPPORT. What every operation of the blocks leaves and keeps, said once: `Moves s t`. Here the announcements, the
arbiter, the close of a charge and the lot register. -/

namespace Sys2Proof.Machine

theorem LineControl.wf_iff (l : LineControl) : l.wf = true ↔
    l.runPermit = permitIn l.state ∧ (l.latch = none ∨ l.state = .halt ∨ l.state = .stopped)
      ∧ l.drainCause.isSome = decide (l.state = .drain) ∧ (l.syncTimer = none ∨ l.state = .starting)
      ∧ (l.state ≠ .halt ∨ l.haltRecord.isSome) := by
  simp only [LineControl.wf, Bool.and_eq_true, Bool.or_eq_true, decide_eq_true_eq, Option.isNone_iff_eq_none]
  tauto

theorem PositionCounter.wf_iff (pc : PositionCounter) : pc.wf = true ↔
    pc.position < 2880 ∧ pc.backlash ≤ 4 ∧ pc.stepCount ≤ 2888 ∧ pc.overspeedRun ≤ 8
      ∧ (pc.sync = .provisional ∨ pc.sync = .synced ∨ pc.stepCount = 0)
      ∧ pc.overspeedOpen = decide (0 < pc.overspeedRun) := by
  simp only [PositionCounter.wf, Bool.and_eq_true, Bool.or_eq_true, decide_eq_true_eq]
  tauto

/-- What an operation of a block does at most between s and t: queue, configuration, inputs, timebase, recipe store, ports,
mask, latch, safe flag, supervision, last request and lamp are left, and position counter, line control and link
controller stay well formed, and the tare queue free of repetition. -/
structure Moves (s t : State) : Prop where
  pending     : t.pending = s.pending
  config      : t.config = s.config
  inputs      : t.inputs = s.inputs
  timebase    : t.timebase = s.timebase
  recipes     : t.recipes = s.recipes
  linePort    : t.link.linePort = s.link.linePort
  servicePort : t.link.servicePort = s.link.servicePort
  masks       : (t.link.maskTrace, t.link.maskLot, t.link.maskFault)
                  = (s.link.maskTrace, s.link.maskLot, s.link.maskFault)
  latch       : t.line.latch = s.line.latch
  safe        : t.line.safe = s.line.safe
  supervision : (t.line.stage, t.line.quietTimer) = (s.line.stage, s.line.quietTimer)
  request     : t.line.lastRequest = s.line.lastRequest
  lamp        : t.line.lamp = s.line.lamp
  positionWf  : s.position.wf = true → t.position.wf = true
  lineWf      : s.line.wf = true → t.line.wf = true
  linkWf      : s.link.wf = true → t.link.wf = true
  tareQueue   : s.gas.tareQueue.Nodup → t.gas.tareQueue.Nodup

variable {s t : State}

theorem Moves.refl (s : State) : Moves s s :=
  ⟨rfl, rfl, rfl, rfl, rfl, rfl, rfl, rfl, rfl, rfl, rfl, rfl, rfl, id, id, id, id⟩

theorem Moves.trans {u : State} (h : Moves s t) (k : Moves t u) : Moves s u :=
  ⟨k.pending.trans h.pending, k.config.trans h.config, k.inputs.trans h.inputs, k.timebase.trans h.timebase,
    k.recipes.trans h.recipes, k.linePort.trans h.linePort, k.servicePort.trans h.servicePort, k.masks.trans h.masks,
    k.latch.trans h.latch, k.safe.trans h.safe, k.supervision.trans h.supervision, k.request.trans h.request,
    k.lamp.trans h.lamp, k.positionWf ∘ h.positionWf, k.lineWf ∘ h.lineWf, k.linkWf ∘ h.linkWf,
    k.tareQueue ∘ h.tareQueue⟩

/-- `Moves` speaks of the timebase only by saying that it is left. -/
theorem Moves.atTime (h : Moves s t) (now : Nat) : Moves { s with timebase := now } { t with timebase := now } :=
  ⟨h.pending, h.config, h.inputs, rfl, h.recipes, h.linePort, h.servicePort, h.masks, h.latch, h.safe, h.supervision,
    h.request, h.lamp, h.positionWf, h.lineWf, h.linkWf, h.tareQueue⟩

/-- A change of the fields that `Moves` leaves free. -/
theorem moves_free (h : Moves s t) (a : Bool) (b : Vector Pocket 24) (d : Vector CrimpHead 24) (e : Vector Head 24)
    (f : List Retirement) (g : Trail) (i : TraceBuffer) (j : LotRegister) (k : Nat) :
    Moves s { t with infeedGate := a, pockets := b, crimp := d, heads := e, retirements := f, trail := g,
                     trace := i, lots := j, freeIx := k } :=
  h.trans ⟨rfl, rfl, rfl, rfl, rfl, rfl, rfl, rfl, rfl, rfl, rfl, rfl, rfl, id, id, id, id⟩

/-- A change of the gas channel unit that keeps the tare queue free of repetition. -/
theorem moves_gas {v : GasUnit} (h : Moves s t) (hq : t.gas.tareQueue.Nodup → v.tareQueue.Nodup) :
    Moves s { t with gas := v } :=
  h.trans ⟨rfl, rfl, rfl, rfl, rfl, rfl, rfl, rfl, rfl, rfl, rfl, rfl, rfl, id, id, id, hq⟩

/-- A change of the position counter that keeps it well formed. -/
theorem moves_position (h : Moves s t) (p : PositionCounter) (hp : t.position.wf = true → p.wf = true) :
    Moves s { t with position := p } :=
  h.trans ⟨rfl, rfl, rfl, rfl, rfl, rfl, rfl, rfl, rfl, rfl, rfl, rfl, rfl, hp, id, id, id⟩

theorem moves_infeedGate {v} (h : Moves s t) : Moves s { t with infeedGate := v } := moves_free h _ _ _ _ _ _ _ _ _
theorem moves_pockets {v} (h : Moves s t) : Moves s { t with pockets := v } := moves_free h _ _ _ _ _ _ _ _ _
theorem moves_crimp {v} (h : Moves s t) : Moves s { t with crimp := v } := moves_free h _ _ _ _ _ _ _ _ _
theorem moves_heads {v} (h : Moves s t) : Moves s { t with heads := v } := moves_free h _ _ _ _ _ _ _ _ _
theorem moves_retirements {v} (h : Moves s t) : Moves s { t with retirements := v } := moves_free h _ _ _ _ _ _ _ _ _
theorem moves_trail {v} (h : Moves s t) : Moves s { t with trail := v } := moves_free h _ _ _ _ _ _ _ _ _
theorem moves_trace {v} (h : Moves s t) : Moves s { t with trace := v } := moves_free h _ _ _ _ _ _ _ _ _
theorem moves_lots {v} (h : Moves s t) : Moves s { t with lots := v } := moves_free h _ _ _ _ _ _ _ _ _
theorem moves_freeIx {v} (h : Moves s t) : Moves s { t with freeIx := v } := moves_free h _ _ _ _ _ _ _ _ _

theorem sendReport_moves {r : Report} (h : Moves s t) : Moves s (sendReport r t) :=
  h.trans ⟨by simp, by simp, by simp, by simp, by simp, by simp, by simp, by simp, by simp, by simp, by simp, by simp,
    by simp, by simp, by simp, sendReport_link_wf t r, by simp⟩

theorem foldl_moves {α : Type} {f : State → α → State} {l : List α} (hf : ∀ s a, Moves s (f s a)) (h : Moves s t) :
    Moves s (l.foldl f t) := by
  induction l generalizing t with
  | nil => exact h
  | cons a l ih => exact ih (h.trans (hf t a))

theorem setPocket_moves {p v} (h : Moves s t) : Moves s (setPocket p v t) := moves_pockets h
theorem setCrimp_moves {p v} (h : Moves s t) : Moves s (setCrimp p v t) := moves_crimp h
theorem setHead_moves {p v} (h : Moves s t) : Moves s (setHead p v t) := moves_heads h
theorem setChannel_moves {p v} (h : Moves s t) : Moves s (setChannel p v t) := moves_gas h id
theorem setSelector_moves {p v} (h : Moves s t) : Moves s (setSelector p v t) := moves_gas h id
theorem modifyPocket_moves {p v} (h : Moves s t) : Moves s (modifyPocket p v t) := moves_pockets h
theorem modifyCrimp_moves {p v} (h : Moves s t) : Moves s (modifyCrimp p v t) := moves_crimp h
theorem modifyChannel_moves {p v} (h : Moves s t) : Moves s (modifyChannel p v t) := moves_gas h id

theorem forHeads_moves {f : PocketNo → State → State} (hf : ∀ p s, Moves s (f p s)) (h : Moves s t) :
    Moves s (forHeads f t) := foldl_moves (fun s p => hf p s) h
theorem forChannels_moves {f : ChannelNo → State → State} (hf : ∀ c s, Moves s (f c s)) (h : Moves s t) :
    Moves s (forChannels f t) := foldl_moves (fun s c => hf c s) h

theorem deliver_moves {p id w} (h : Moves s t) : Moves s (deliver p id w t) := by
  unfold deliver
  repeat' split
  all_goals apply_rules [modifyPocket_moves]

theorem refreshCeiling_moves (h : Moves s t) : Moves s (refreshCeiling t) := moves_position h _ fun k => k

theorem announceGrant_moves {p : PocketNo} {c : ChannelNo} (h : Moves s t) : Moves s (announceGrant p c t) := by
  unfold announceGrant
  try dsimp only
  with_reducible repeat' first | exact h | apply setPocket_moves | split

theorem announceClose_moves {p : PocketNo} (h : Moves s t) : Moves s (announceClose p t) := by
  unfold announceClose
  try dsimp only
  with_reducible repeat' first | exact h | apply setPocket_moves | split

theorem announceRemoval_moves {p : PocketNo} (h : Moves s t) : Moves s (announceRemoval p t) := by
  unfold announceRemoval
  try dsimp only
  with_reducible repeat' first | exact h | apply setPocket_moves | split

theorem grantChannel_moves {c : ChannelNo} {p : PocketNo} (h : Moves s t) : Moves s (grantChannel c p t) := by
  unfold grantChannel
  try dsimp only
  with_reducible repeat'
    first
      | exact h | apply announceGrant_moves | apply setSelector_moves | apply modifyChannel_moves | apply moves_gas | exact id

theorem grantOnce_moves (h : Moves s t) : Moves s (grantOnce t) := by
  unfold grantOnce
  try dsimp only
  with_reducible repeat' first | exact h | apply grantChannel_moves | split

theorem grantSearch_moves (h : Moves s t) : Moves s (grantSearch t) := by
  unfold grantSearch
  try dsimp only
  with_reducible repeat' first | exact h | apply grantOnce_moves

theorem closeCharge_moves {c : ChannelNo} {cause : CloseCause} (h : Moves s t) : Moves s (closeCharge c cause t) := by
  unfold closeCharge
  try dsimp only
  with_reducible repeat'
    first
      | exact h | apply modifyChannel_moves | apply announceClose_moves | apply setSelector_moves | split

theorem closeIfCharging_moves {cause : CloseCause} {c : ChannelNo} (h : Moves s t) :
    Moves s (closeIfCharging cause c t) := by
  unfold closeIfCharging
  try dsimp only
  with_reducible repeat' first | exact h | apply closeCharge_moves | split

theorem removeWaiting_moves {p : PocketNo} (h : Moves s t) : Moves s (removeWaiting p t) := by
  unfold removeWaiting
  try dsimp only
  with_reducible repeat' first | exact h | apply announceRemoval_moves | split | apply moves_gas | exact id

theorem haltGas_moves (h : Moves s t) : Moves s (haltGas t) := by
  unfold haltGas
  try dsimp only
  with_reducible repeat'
    first
      | exact h | exact Moves.refl _ | apply forChannels_moves | apply closeIfCharging_moves
      | apply announceRemoval_moves | apply foldl_moves | intro _ _ | apply moves_gas | exact id

theorem joinWaiting_moves {p : PocketNo} (h : Moves s t) : Moves s (joinWaiting p t) := by
  unfold joinWaiting
  try dsimp only
  with_reducible repeat'
    first
      | exact h | apply grantSearch_moves | apply announceRemoval_moves | split | apply moves_gas | exact id

theorem tareStart_moves (h : Moves s t) : Moves s (tareStart t) := by
  unfold tareStart
  try dsimp only
  with_reducible repeat' first | exact h | apply modifyChannel_moves | split

theorem queueTare_moves {c : ChannelNo} (h : Moves s t) : Moves s (queueTare c t) := by
  refine moves_gas (modifyChannel_moves h) fun k => ?_
  dsimp only
  split
  · exact k
  · rename_i hc
    exact List.nodup_append.mpr ⟨k, List.nodup_singleton c, fun a ha b hb => by
      rw [List.mem_singleton] at hb
      exact fun e => hc (hb ▸ e ▸ ha)⟩

theorem leaveTareQueue_moves {c : ChannelNo} (h : Moves s t) : Moves s (leaveTareQueue c t) := by
  exact moves_gas h fun k => k.erase c

theorem setTareDue_moves {c : ChannelNo} (h : Moves s t) : Moves s (setTareDue c t) := by
  unfold setTareDue
  try dsimp only
  with_reducible repeat'
    first
      | exact h | apply modifyChannel_moves | apply tareStart_moves | apply queueTare_moves | split

theorem enterIdle_moves {c : ChannelNo} (h : Moves s t) : Moves s (enterIdle c t) := by
  unfold enterIdle
  try dsimp only
  with_reducible repeat' first | exact h | apply grantSearch_moves | apply modifyChannel_moves

theorem evaluateSupply_moves (h : Moves s t) : Moves s (evaluateSupply t) := by
  unfold evaluateSupply
  try dsimp only
  with_reducible repeat' first | exact h | apply sendReport_moves | apply grantSearch_moves | split | apply moves_gas | exact id

theorem refreshSlots_moves (h : Moves s t) : Moves s (refreshSlots t) := by
  unfold refreshSlots
  try dsimp only
  with_reducible repeat' first | exact h | apply refreshCeiling_moves | apply evaluateSupply_moves | apply moves_gas | exact id

theorem putLot_moves {l : LotRecord} (h : Moves s t) : Moves s (putLot l t) := by
  unfold putLot
  try dsimp only
  with_reducible repeat' first | exact h | split | apply moves_lots

theorem commitClosing_moves {closing : LotRecord} (h : Moves s t) : Moves s (commitClosing closing t) := by
  unfold commitClosing
  try dsimp only
  with_reducible repeat' first | exact h | apply sendReport_moves | apply refreshSlots_moves | apply moves_lots

theorem settleLot_moves {lot : LotId} (h : Moves s t) : Moves s (settleLot lot t) := by
  unfold settleLot
  try dsimp only
  with_reducible repeat' first | exact h | apply commitClosing_moves | split

theorem countEvent_moves {lot : LotId} {count : LotRecord → Nat} {write : Nat → LotRecord → LotRecord} (h : Moves s t) :
    Moves s (countEvent lot count write t) := by
  unfold countEvent
  try dsimp only
  with_reducible repeat' first | exact h | apply settleLot_moves | apply putLot_moves | split | apply moves_freeIx

theorem countAdmission_moves {lot : LotId} (h : Moves s t) : Moves s (countAdmission lot t) := by
  unfold countAdmission
  try dsimp only
  with_reducible repeat' first | exact h | apply countEvent_moves

theorem countLost_moves {lot : LotId} (h : Moves s t) : Moves s (countLost lot t) := by
  unfold countLost
  try dsimp only
  with_reducible repeat' first | exact h | apply countEvent_moves

theorem countArrival_moves {lot : LotId} {d : Disposition} (h : Moves s t) : Moves s (countArrival lot d t) := by
  unfold countArrival
  try dsimp only
  with_reducible repeat' first | exact h | apply countEvent_moves | split

theorem countNoCan_moves {lot : LotId} (h : Moves s t) : Moves s (countNoCan lot t) := by
  unfold countNoCan
  try dsimp only
  with_reducible repeat' first | exact h | apply settleLot_moves | apply putLot_moves | split

theorem leaveCounted_moves {p : PocketNo} {canSeen : Bool} (h : Moves s t) : Moves s (leaveCounted p canSeen t) := by
  unfold leaveCounted
  try dsimp only
  with_reducible repeat' first | exact h | split | apply moves_lots

theorem settleBoundary_moves (h : Moves s t) : Moves s (settleBoundary t) := by
  unfold settleBoundary
  try dsimp only
  with_reducible repeat' first | exact h | apply commitClosing_moves | apply sendReport_moves | split

theorem boundaryOffer_moves {plan : ChangePlan} (h : Moves s t) : Moves s (boundaryOffer plan t) := by
  unfold boundaryOffer
  try dsimp only
  with_reducible repeat' first | exact h | apply settleBoundary_moves | apply refreshSlots_moves | apply moves_lots

theorem raiseOffers_moves (h : Moves s t) : Moves s (raiseOffers t) := by
  unfold raiseOffers
  try dsimp only
  with_reducible repeat' first | exact h | apply moves_lots

theorem offerLot_moves {p : PocketNo} (h : Moves s t) : Moves s (offerLot p t) := by
  unfold offerLot
  try dsimp only
  with_reducible repeat'
    first
      | exact h | apply boundaryOffer_moves | apply raiseOffers_moves | split | apply moves_lots

theorem openNewLot_moves {lot : LotId} {slot : SlotNo} (h : Moves s t) : Moves s (openNewLot lot slot t) := by
  unfold openNewLot
  try dsimp only
  with_reducible repeat' first | exact h | apply sendReport_moves | apply refreshSlots_moves | split | apply moves_lots

theorem failChangeover_moves {cause : FailCause} (h : Moves s t) : Moves s (failChangeover cause t) := by
  unfold failChangeover
  try dsimp only
  with_reducible repeat' first | exact h | apply sendReport_moves | split | apply moves_lots

end Sys2Proof.Machine
end

