-- ==== Sys2Proof/Laws/MovesLine.lean ====
section
/-! SUPPORT. `Moves` for line control, the channel unit and the head health unit. -/

namespace Sys2Proof.Machine

variable {s t : State}


theorem reportHead_moves {p : PocketNo} {before : HeadState} {event : HeadEvent} (h : Moves s t) :
    Moves s (reportHead p before event t) := by
  unfold reportHead
  try dsimp only
  with_reducible repeat' first | exact h | apply sendReport_moves

theorem moveHead_moves {p : PocketNo} {event : HeadEvent} {f : Head → Head} (h : Moves s t) :
    Moves s (moveHead p event f t) := by
  unfold moveHead
  try dsimp only
  with_reducible repeat' first | exact h | apply setHead_moves | apply reportHead_moves | split

theorem interruptHead_moves {p : PocketNo} (h : Moves s t) : Moves s (interruptHead p t) := by
  unfold interruptHead
  try dsimp only
  with_reducible repeat' first | exact h | apply moveHead_moves | split

theorem interruptCalibration_moves {p : PocketNo} (h : Moves s t) : Moves s (interruptCalibration p t) := by
  unfold interruptCalibration
  try dsimp only
  with_reducible repeat'
    first
      | exact h | apply interruptHead_moves | apply modifyCrimp_moves | apply modifyPocket_moves | split

/-- A change of the line state keeps line control well formed unless it turns the permit on from a state without it, or
enters HALT, where the halt record is written besides. -/
theorem setLine_moves {after : LineState} {drain : Option DrainCause} (hd : drain.isSome = decide (after = .drain))
    (hp : permitIn after = true → permitIn t.line.state = true) (hh : after ≠ .halt) (h : Moves s t) :
    Moves s (setLine after drain t) := by
  refine h.trans ⟨rfl, rfl, rfl, rfl, rfl, rfl, rfl, rfl, rfl, rfl, rfl, rfl, rfl, id, fun k => ?_, id, id⟩
  rw [LineControl.wf_iff] at k ⊢
  obtain ⟨k1, k2, k3, k4, k5⟩ := k
  refine ⟨rfl, ?_, hd, ?_, Or.inl hh⟩
  · rcases after with _ | _ | _ | _ | _ <;> simp_all [permitIn]
    all_goals (generalize t.line.state = l at *; cases l <;> simp_all)
  · by_cases ha : after = .starting <;> simp [ha]

theorem endEpisode_moves (h : Moves s t) : Moves s (endEpisode t) := by
  unfold endEpisode
  split
  · refine sendReport_moves (moves_position h _ fun k => ?_)
    rw [PositionCounter.wf_iff] at k ⊢
    simp_all
  · exact h

theorem handOffLine_moves {before after : LineState} (h : Moves s t) : Moves s (handOffLine before after t) := by
  unfold handOffLine
  dsimp only
  with_reducible repeat'
    first
      | exact h | apply failChangeover_moves | apply endEpisode_moves | split | apply moves_infeedGate

theorem changeLine_moves {after : LineState} {drain : Option DrainCause} {event : LineEvent} {also : State → State}
    (hd : drain.isSome = decide (after = .drain)) (hp : permitIn after = true → permitIn t.line.state = true)
    (hh : after ≠ .halt) (ha : ∀ s, Moves s (also s)) (h : Moves s t) :
    Moves s (changeLine after drain event also t) :=
  sendReport_moves (handOffLine_moves ((setLine_moves hd hp hh h).trans (ha _)))

theorem haltPockets_moves (h : Moves s t) : Moves s (haltPockets t) := by
  unfold haltPockets
  try dsimp only
  with_reducible repeat' first | exact h | apply moves_pockets

theorem haltStrokes_moves (h : Moves s t) : Moves s (haltStrokes t) := by
  unfold haltStrokes
  try dsimp only
  with_reducible repeat' first | exact h | apply moves_crimp

theorem haltBlocks_moves (h : Moves s t) : Moves s (haltBlocks t) := by
  unfold haltBlocks
  try dsimp only
  with_reducible repeat'
    first
      | exact h | exact Moves.refl _ | apply forHeads_moves | apply interruptCalibration_moves
      | apply haltStrokes_moves | apply haltGas_moves | apply haltPockets_moves | intro _ _

theorem checkStandstill_moves (h : Moves s t) : Moves s (checkStandstill t) := by
  unfold checkStandstill
  split
  · exact changeLine_moves rfl (by simp [permitIn]) (by simp) Moves.refl h
  · exact h

theorem enterHalt_moves {cause : HaltCause} (h : Moves s t) : Moves s (enterHalt cause t) := by
  unfold enterHalt
  dsimp only
  refine checkStandstill_moves (sendReport_moves (sendReport_moves (handOffLine_moves (haltBlocks_moves ?_))))
  refine h.trans ⟨rfl, rfl, rfl, rfl, rfl, rfl, rfl, rfl, rfl, rfl, rfl, rfl, rfl, id, fun k => ?_, id, id⟩
  rw [LineControl.wf_iff]
  simp [permitIn]

theorem joinLaterCauses_moves {cause : HaltCause} (h : Moves s t) : Moves s (joinLaterCauses cause t) := by
  refine h.trans ⟨rfl, rfl, rfl, rfl, rfl, rfl, rfl, rfl, rfl, rfl, rfl, rfl, rfl, id, fun k => ?_, id, id⟩
  rw [LineControl.wf_iff] at k ⊢
  refine ⟨k.1, k.2.1, k.2.2.1, k.2.2.2.1, k.2.2.2.2.imp id fun r => ?_⟩
  show (Option.map _ _).isSome = true
  rw [Option.isSome_map]
  exact r

theorem takeHaltCause_moves {cause : HaltCause} (h : Moves s t) : Moves s (takeHaltCause cause t) := by
  unfold takeHaltCause
  split
  all_goals first | exact enterHalt_moves h | exact joinLaterCauses_moves h | exact h

theorem completeDrain_moves (h : Moves s t) : Moves s (completeDrain t) :=
  changeLine_moves rfl (by simp [permitIn]) (by simp)
    (fun s => forHeads_moves (fun _ s => interruptCalibration_moves (Moves.refl s)) (Moves.refl s)) h

theorem checkDrain_moves (h : Moves s t) : Moves s (checkDrain t) := by
  unfold checkDrain
  split
  · exact completeDrain_moves h
  · exact h

theorem takeDrainCause_moves {cause : DrainCause} (h : Moves s t) : Moves s (takeDrainCause cause t) := by
  unfold takeDrainCause
  split
  · rename_i hr
    exact checkDrain_moves (changeLine_moves rfl (by simp [permitIn, hr]) (by simp) Moves.refl h)
  · exact changeLine_moves rfl (by simp [permitIn]) (by simp) Moves.refl h
  · exact h

theorem checkInService_moves (h : Moves s t) : Moves s (checkInService t) := by
  unfold checkInService
  try dsimp only
  with_reducible repeat' first | exact h | apply takeDrainCause_moves | split

theorem enterRun_moves {event : LineEvent} (hp : permitIn t.line.state = true) (h : Moves s t) :
    Moves s (enterRun event t) :=
  checkInService_moves (changeLine_moves rfl (fun _ => hp) (by simp) Moves.refl h)

theorem reportChannel_moves {c : ChannelNo} (h : Moves s t) : Moves s (reportChannel c t) := by
  unfold reportChannel
  try dsimp only
  with_reducible repeat' first | exact h | apply sendReport_moves

theorem enterFault_moves {c : ChannelNo} {cause : ChannelFault} (h : Moves s t) : Moves s (enterFault c cause t) := by
  unfold enterFault
  try dsimp only
  with_reducible repeat'
    first
      | exact h | apply modifyChannel_moves | apply checkInService_moves | apply tareStart_moves
      | apply reportChannel_moves | apply leaveTareQueue_moves

theorem enterOff_moves {c : ChannelNo} (h : Moves s t) : Moves s (enterOff c t) := by
  unfold enterOff
  try dsimp only
  with_reducible repeat'
    first
      | exact h | apply modifyChannel_moves | apply checkInService_moves | apply tareStart_moves
      | apply reportChannel_moves | apply leaveTareQueue_moves

theorem returnToService_moves {c : ChannelNo} (h : Moves s t) : Moves s (returnToService c t) := by
  unfold returnToService
  try dsimp only
  with_reducible repeat'
    first
      | exact h | apply modifyChannel_moves | apply tareStart_moves | apply reportChannel_moves
      | apply queueTare_moves

theorem settleDestination_moves {c : ChannelNo} {fault : Option ChannelFault} (h : Moves s t) :
    Moves s (settleDestination c fault t) := by
  unfold settleDestination
  try dsimp only
  with_reducible repeat'
    first
      | exact h | apply enterFault_moves | apply enterOff_moves | apply tareStart_moves | apply queueTare_moves
      | apply enterIdle_moves | split

theorem endSettle_moves {c : ChannelNo} (h : Moves s t) : Moves s (endSettle c t) := by
  unfold endSettle
  try dsimp only
  with_reducible repeat'
    first
      | exact h | apply setChannel_moves | apply deliver_moves | apply settleDestination_moves | split

theorem endTare_moves {c : ChannelNo} (h : Moves s t) : Moves s (endTare c t) := by
  unfold endTare
  try dsimp only
  with_reducible repeat'
    first
      | exact h | apply leaveTareQueue_moves | apply modifyChannel_moves | apply enterFault_moves
      | apply enterOff_moves | apply tareStart_moves | apply enterIdle_moves | split

theorem judgeCreep_moves {c : ChannelNo} (h : Moves s t) : Moves s (judgeCreep c t) := by
  unfold judgeCreep
  try dsimp only
  with_reducible repeat' first | exact h | apply enterFault_moves | split

theorem takeIncrement_moves {c : ChannelNo} {mg : Int} (h : Moves s t) : Moves s (takeIncrement c mg t) := by
  unfold takeIncrement
  try dsimp only
  with_reducible repeat'
    first
      | exact h | apply modifyChannel_moves | apply closeCharge_moves | apply judgeCreep_moves | split

theorem takeMeterError_moves {c : ChannelNo} (h : Moves s t) : Moves s (takeMeterError c t) := by
  unfold takeMeterError
  try dsimp only
  with_reducible repeat'
    first
      | exact h | apply closeCharge_moves | apply modifyChannel_moves | apply enterFault_moves | split

theorem switchOff_moves {c : ChannelNo} (h : Moves s t) : Moves s (switchOff c t) := by
  unfold switchOff
  try dsimp only
  with_reducible repeat' first | exact h | apply enterOff_moves | apply modifyChannel_moves | split

theorem switchOn_moves {c : ChannelNo} (h : Moves s t) : Moves s (switchOn c t) := by
  unfold switchOn
  try dsimp only
  with_reducible repeat' first | exact h | apply modifyChannel_moves | apply returnToService_moves | split

theorem recheckTare_moves {c : ChannelNo} (h : Moves s t) : Moves s (recheckTare c t) := by
  unfold recheckTare
  try dsimp only
  with_reducible repeat' first | exact h | apply setTareDue_moves | split

theorem retireHead_moves {p : PocketNo} {cause : RetireCause} {event : HeadEvent} (h : Moves s t) :
    Moves s (retireHead p cause event t) := by
  unfold retireHead
  try dsimp only
  with_reducible repeat' first | exact h | apply moveHead_moves | split | apply moves_retirements

theorem handLimit_moves {full : Bool} (h : Moves s t) : Moves s (handLimit full t) := by
  unfold handLimit
  try dsimp only
  with_reducible repeat' first | exact h | apply takeDrainCause_moves | split

theorem retire_moves {p : PocketNo} {cause : RetireCause} {event : HeadEvent} (h : Moves s t) :
    Moves s (retire p cause event t) := by
  unfold retire
  try dsimp only
  with_reducible repeat' first | exact h | apply handLimit_moves | apply retireHead_moves

theorem verdict_moves {p : PocketNo} {classes : FaultClasses} {id : CanId} (h : Moves s t) :
    Moves s (verdict p classes id t) := by
  unfold verdict
  try dsimp only
  with_reducible repeat' first | exact h | apply setHead_moves | apply moveHead_moves | apply retire_moves | split

theorem startReseat_moves {p : PocketNo} (h : Moves s t) : Moves s (startReseat p t) := by
  unfold startReseat
  try dsimp only
  with_reducible repeat' first | exact h | apply moveHead_moves

theorem decideCalibration_moves {p : PocketNo} {candidate : Option Int} (h : Moves s t) :
    Moves s (decideCalibration p candidate t) := by
  unfold decideCalibration
  try dsimp only
  with_reducible repeat' first | exact h | apply moveHead_moves | apply retire_moves | apply setHead_moves | split

theorem stuckHead_moves {p : PocketNo} {id : CanId} (h : Moves s t) : Moves s (stuckHead p id t) := by
  unfold stuckHead
  try dsimp only
  with_reducible repeat'
    first
      | exact h | apply setHead_moves | apply retireHead_moves | split | apply moves_retirements

theorem dropEntry_moves {p : PocketNo} (h : Moves s t) : Moves s (dropEntry p t) := by
  unfold dropEntry
  try dsimp only
  with_reducible repeat' first | exact h | apply moves_retirements

theorem restoreRetired_moves {p : PocketNo} (h : Moves s t) : Moves s (restoreRetired p t) := by
  unfold restoreRetired
  try dsimp only
  with_reducible repeat' first | exact h | apply moveHead_moves | apply dropEntry_moves

theorem headOut_moves {p : PocketNo} (h : Moves s t) : Moves s (headOut p t) := by
  unfold headOut
  try dsimp only
  with_reducible repeat' first | exact h | apply moveHead_moves | apply dropEntry_moves

theorem headIn_moves {p : PocketNo} (h : Moves s t) : Moves s (headIn p t) := by
  unfold headIn
  try dsimp only
  with_reducible repeat' first | exact h | apply moveHead_moves

end Sys2Proof.Machine
end

