-- ==== Sys2Proof/Laws/MovesTurret.lean ====
section
/-! SUPPORT. `Moves` for the trail, the pocket table, the crimp unit and the position counter. -/

namespace Sys2Proof.Machine

variable {s t : State}

theorem appendEntry_moves {kind : EntryKind} (h : Moves s t) : Moves s (appendEntry kind t) := by
  unfold appendEntry
  try dsimp only
  with_reducible repeat' first | exact h | apply moves_trail

theorem commandGate_moves {lane : GatePos} {entry : Option Word32} (h : Moves s t) :
    Moves s (commandGate lane entry t) := by
  unfold commandGate
  try dsimp only
  with_reducible repeat' first | exact h | split | apply moves_trail

theorem gateUnconfirmed_moves (h : Moves s t) : Moves s (gateUnconfirmed t) := by
  unfold gateUnconfirmed
  try dsimp only
  with_reducible repeat'
    first
      | exact h | apply takeHaltCause_moves | apply sendReport_moves | split | apply moves_trail

theorem commandEntry_moves {e : TrailEntry} (h : Moves s t) : Moves s (commandEntry e t) := by
  unfold commandEntry
  try dsimp only
  with_reducible repeat' first | exact h | apply commandGate_moves | apply moves_trail

theorem commandNext_moves {pitch : Word32} (h : Moves s t) : Moves s (commandNext pitch t) := by
  unfold commandNext
  try dsimp only
  with_reducible repeat' first | exact h | apply commandEntry_moves | apply commandGate_moves | split

theorem createRecord_moves {e : TrailEntry} {d : Disposition} {pitch : Word32} (h : Moves s t) :
    Moves s (createRecord e d pitch t) := by
  unfold createRecord
  try dsimp only
  with_reducible repeat' first | exact h | apply sendReport_moves | split | apply moves_trace

theorem arrive_moves {e : TrailEntry} {seen : Bool} {pitch : Word32} (h : Moves s t) :
    Moves s (arrive e seen pitch t) := by
  unfold arrive
  try dsimp only
  with_reducible repeat'
    first
      | exact h | apply countArrival_moves | apply createRecord_moves | apply sendReport_moves | split

theorem arrivals_moves {pitch : Word32} (h : Moves s t) : Moves s (arrivals pitch t) := by
  unfold arrivals
  try dsimp only
  with_reducible repeat' first | exact h | apply arrive_moves | apply sendReport_moves | split | apply moves_trail

theorem trailCrossing_moves (h : Moves s t) : Moves s (trailCrossing t) := by
  unfold trailCrossing
  try dsimp only
  with_reducible repeat' first | exact h | apply commandNext_moves | apply arrivals_moves | apply gateUnconfirmed_moves

theorem takeWeight_moves {reading : Option Word16} (h : Moves s t) : Moves s (takeWeight reading t) := by
  unfold takeWeight
  try dsimp only
  with_reducible repeat' first | exact h | apply sendReport_moves | split | apply moves_trail

theorem noteQuery_moves (h : Moves s t) : Moves s (noteQuery t) := by
  unfold noteQuery
  try dsimp only
  with_reducible repeat' first | exact h | apply sendReport_moves | split | apply moves_trace

theorem loseTrail_moves (h : Moves s t) : Moves s (loseTrail t) := by
  unfold loseTrail
  try dsimp only
  with_reducible repeat'
    first
      | exact h | exact Moves.refl _ | apply countLost_moves | apply commandGate_moves | apply foldl_moves | split
      | intro _ _ | apply moves_trail

theorem offerCan_moves {p : PocketNo} (h : Moves s t) : Moves s (offerCan p t) := by
  unfold offerCan
  try dsimp only
  with_reducible repeat' first | exact h | apply offerLot_moves | apply modifyPocket_moves | apply moves_infeedGate

theorem passEmpty_moves {p : PocketNo} (h : Moves s t) : Moves s (passEmpty p t) := by
  unfold passEmpty
  try dsimp only
  with_reducible repeat'
    first
      | exact h | apply modifyPocket_moves | apply startReseat_moves | split | apply moves_infeedGate

theorem admitCrossing_moves {p : PocketNo} (h : Moves s t) : Moves s (admitCrossing p t) := by
  unfold admitCrossing
  try dsimp only
  with_reducible repeat'
    first
      | exact h | apply noteQuery_moves | apply offerCan_moves | apply passEmpty_moves | split
      | apply moves_infeedGate

theorem admitCan_moves {p : PocketNo} {b : Binding} (h : Moves s t) : Moves s (admitCan p b t) := by
  unfold admitCan
  try dsimp only
  with_reducible repeat'
    first
      | exact h | apply leaveCounted_moves | apply countAdmission_moves | apply modifyPocket_moves

theorem missCan_moves {p : PocketNo} {b : Binding} (h : Moves s t) : Moves s (missCan p b t) := by
  unfold missCan
  try dsimp only
  with_reducible repeat' first | exact h | apply modifyPocket_moves | apply countNoCan_moves | apply leaveCounted_moves

theorem admitCheckCrossing_moves {p : PocketNo} {b : Binding} (h : Moves s t) : Moves s (admitCheckCrossing p b t) := by
  unfold admitCheckCrossing
  try dsimp only
  with_reducible repeat' first | exact h | apply admitCan_moves | apply missCan_moves | split

theorem cupCheckCrossing_moves {p : PocketNo} (h : Moves s t) : Moves s (cupCheckCrossing p t) := by
  unfold cupCheckCrossing
  try dsimp only
  with_reducible repeat' first | exact h | apply setPocket_moves | split

theorem seatCrossing_moves {p : PocketNo} (h : Moves s t) : Moves s (seatCrossing p t) := by
  unfold seatCrossing
  try dsimp only
  with_reducible repeat' first | exact h | apply modifyCrimp_moves | apply setPocket_moves | split

theorem chargeOpenCrossing_moves {p : PocketNo} (h : Moves s t) : Moves s (chargeOpenCrossing p t) := by
  unfold chargeOpenCrossing
  try dsimp only
  with_reducible repeat'
    first
      | exact h | apply modifyPocket_moves | apply joinWaiting_moves | apply setPocket_moves | split

theorem chargeCloseCrossing_moves {p : PocketNo} (h : Moves s t) : Moves s (chargeCloseCrossing p t) := by
  unfold chargeCloseCrossing
  try dsimp only
  with_reducible repeat'
    first
      | exact h | exact Moves.refl _ | apply forChannels_moves | apply closeCharge_moves | split | intro _ _

theorem openCanStroke_moves {p : PocketNo} {b : Binding} {id : CanId} (h : Moves s t) :
    Moves s (openCanStroke p b id t) := by
  unfold openCanStroke
  try dsimp only
  with_reducible repeat'
    first
      | exact h | apply modifyCrimp_moves | apply modifyPocket_moves | apply deliver_moves | split

theorem startCrimp_moves {p : PocketNo} {b : Binding} (h : Moves s t) : Moves s (startCrimp p b t) := by
  unfold startCrimp
  with_reducible repeat' first | exact h | apply openCanStroke_moves | apply deliver_moves | split

theorem startCalibration_moves {p : PocketNo} {b : Binding} (h : Moves s t) : Moves s (startCalibration p b t) := by
  unfold startCalibration
  exact modifyCrimp_moves h

theorem crimpStartCrossing_moves {p : PocketNo} {b : Binding} (h : Moves s t) : Moves s (crimpStartCrossing p b t) := by
  unfold crimpStartCrossing
  try dsimp only
  with_reducible repeat'
    first
      | exact h | apply startCrimp_moves | apply startCalibration_moves | split

theorem measureCan_moves {p : PocketNo} {b : Binding} {st : Stroke} {id : CanId} (h : Moves s t) :
    Moves s (measureCan p b st id t) := by
  unfold measureCan
  try dsimp only
  with_reducible repeat'
    first
      | exact h | apply deliver_moves | apply modifyPocket_moves | apply modifyCrimp_moves | apply moves_freeIx

theorem measureCalibration_moves {p : PocketNo} {st : Stroke} (h : Moves s t) :
    Moves s (measureCalibration p st t) := by
  unfold measureCalibration
  try dsimp only
  with_reducible repeat' first | exact h | apply decideCalibration_moves | apply modifyCrimp_moves

theorem crimpMeasureCrossing_moves {p : PocketNo} {b : Binding} (h : Moves s t) :
    Moves s (crimpMeasureCrossing p b t) := by
  unfold crimpMeasureCrossing
  try dsimp only
  with_reducible repeat' first | exact h | apply measureCan_moves | apply measureCalibration_moves | split

theorem releaseHead_moves {p : PocketNo} {id : CanId} (h : Moves s t) : Moves s (releaseHead p id t) := by
  unfold releaseHead
  try dsimp only
  with_reducible repeat' first | exact h | apply modifyCrimp_moves

theorem releaseCrossing_moves {p : PocketNo} (h : Moves s t) : Moves s (releaseCrossing p t) := by
  unfold releaseCrossing
  try dsimp only
  with_reducible repeat'
    first
      | exact h | apply setPocket_moves | apply releaseHead_moves | apply verdict_moves | apply modifyCrimp_moves
      | split

theorem giveUpCan_moves {p : PocketNo} (h : Moves s t) : Moves s (giveUpCan p t) := by
  unfold giveUpCan
  try dsimp only
  with_reducible repeat' first | exact h | apply countLost_moves | apply setPocket_moves | split

theorem handToTrail_moves {p : PocketNo} (h : Moves s t) : Moves s (handToTrail p t) := by
  unfold handToTrail
  try dsimp only
  with_reducible repeat' first | exact h | apply appendEntry_moves | apply setPocket_moves | split

theorem headStuckAt_moves {p : PocketNo} {id : CanId} (h : Moves s t) : Moves s (headStuckAt p id t) := by
  unfold headStuckAt
  try dsimp only
  with_reducible repeat'
    first
      | exact h | apply modifyCrimp_moves | apply giveUpCan_moves | apply sendReport_moves | apply handLimit_moves
      | apply takeHaltCause_moves | apply stuckHead_moves

theorem dischargeCrossing_moves {p : PocketNo} (h : Moves s t) : Moves s (dischargeCrossing p t) := by
  unfold dischargeCrossing
  try dsimp only
  with_reducible repeat'
    first
      | exact h | apply headStuckAt_moves | apply handToTrail_moves | apply giveUpCan_moves | split

theorem recipeCrossing_moves {p : PocketNo} {b : Binding} {phase : Nat} (h : Moves s t) :
    Moves s (recipeCrossing p b phase t) := by
  unfold recipeCrossing
  try dsimp only
  with_reducible repeat'
    first
      | exact h | apply admitCheckCrossing_moves | apply cupCheckCrossing_moves | apply seatCrossing_moves
      | apply chargeOpenCrossing_moves | apply removeWaiting_moves | apply chargeCloseCrossing_moves
      | apply crimpStartCrossing_moves | apply crimpMeasureCrossing_moves | apply releaseCrossing_moves | split

theorem pocketCrossing_moves {p : PocketNo} {phase : Nat} (h : Moves s t) : Moves s (pocketCrossing p phase t) := by
  unfold pocketCrossing
  try dsimp only
  with_reducible repeat'
    first
      | exact h | apply admitCrossing_moves | apply dischargeCrossing_moves | apply recipeCrossing_moves | split

theorem bellClosedActive_moves {p : PocketNo} (h : Moves s t) : Moves s (bellClosedActive p t) := by
  unfold bellClosedActive
  try dsimp only
  with_reducible repeat' first | exact h | apply setPocket_moves | split

theorem jawClosedActive_moves {p : PocketNo} (h : Moves s t) : Moves s (jawClosedActive p t) := by
  unfold jawClosedActive
  try dsimp only
  with_reducible repeat' first | exact h | apply modifyCrimp_moves | apply deliver_moves | split

theorem jawTimeout_moves {p : PocketNo} (h : Moves s t) : Moves s (jawTimeout p t) := by
  unfold jawTimeout
  try dsimp only
  with_reducible repeat' first | exact h | apply modifyCrimp_moves | apply deliver_moves | split

theorem followForce_moves {p : PocketNo} {newtons : Int} (h : Moves s t) : Moves s (followForce p newtons t) := by
  unfold followForce
  try dsimp only
  with_reducible repeat' first | exact h | apply modifyCrimp_moves | split

theorem bellOpenActive_moves {p : PocketNo} (h : Moves s t) : Moves s (bellOpenActive p t) := by
  unfold bellOpenActive
  try dsimp only
  with_reducible repeat' first | exact h | apply modifyCrimp_moves

theorem losePocket_moves {p : PocketNo} (h : Moves s t) : Moves s (losePocket p t) := by
  unfold losePocket
  try dsimp only
  with_reducible repeat'
    first
      | exact h | apply countLost_moves | apply setPocket_moves | apply countNoCan_moves | apply leaveCounted_moves
      | apply interruptHead_moves | split

theorem loseCrimp_moves (h : Moves s t) : Moves s (loseCrimp t) := by
  unfold loseCrimp
  try dsimp only
  with_reducible repeat' first | exact h | apply moves_crimp

/-- The crimp unit and the waiting list in a loss of position. -/
theorem loseWaiting_moves (h : Moves s t) : Moves s { loseCrimp t with gas := { t.gas with waiting := [] } } :=
  moves_gas (loseCrimp_moves h) id

theorem losePosition_moves (h : Moves s t) : Moves s (losePosition t) := by
  unfold losePosition
  dsimp only
  exact loseTrail_moves (loseWaiting_moves (forHeads_moves (fun p s => losePocket_moves (Moves.refl s))
    (moves_position h _ fun k => k)))

theorem positionFault_moves {cause : HaltCause} (h : Moves s t) : Moves s (positionFault cause t) := by
  unfold positionFault
  dsimp only
  refine losePosition_moves (takeHaltCause_moves (sendReport_moves (moves_position h _ fun k => ?_)))
  rw [PositionCounter.wf_iff] at k ⊢
  simp_all

theorem reachSynced_moves (h : Moves s t) : Moves s (reachSynced t) := by
  have k : Moves s { t with
      position := { t.position with
        sync := .synced, position := 0, backlash := 0, stepCount := 0, pitchTime := none, lastBoundary := none,
        overspeedRun := 0, overspeedOpen := false },
      trail := { t.trail with eyeLatch := false } } :=
    h.trans ⟨rfl, rfl, rfl, rfl, rfl, rfl, rfl, rfl, rfl, rfl, rfl, rfl, rfl, fun _ => by simp [PositionCounter.wf], id, id, id⟩
  unfold reachSynced
  dsimp only
  split
  · rename_i hs
    exact enterRun_moves (by simp only [hs]; rfl) k
  · exact k

theorem setStepCount_zero_moves (h : Moves s t) : Moves s (setStepCount 0 t) := by
  refine moves_position h _ fun k => ?_
  rw [PositionCounter.wf_iff] at k ⊢
  simp_all

theorem dropProvisional_moves (h : Moves s t) : Moves s (dropProvisional t) := by
  refine moves_position h _ fun k => ?_
  rw [PositionCounter.wf_iff] at k ⊢
  simp_all

theorem takeIndex_moves (h : Moves s t) : Moves s (takeIndex t) := by
  unfold takeIndex
  split
  · split
    · refine moves_position h _ fun k => ?_
      rw [PositionCounter.wf_iff] at k ⊢
      simp_all
    · split
      · exact reachSynced_moves h
      · exact setStepCount_zero_moves h
    · split
      · exact setStepCount_zero_moves h
      · exact positionFault_moves h
    · exact h
  · exact h

theorem takeStepLimit_moves (h : Moves s t) : Moves s (takeStepLimit t) := by
  unfold takeStepLimit
  try dsimp only
  with_reducible repeat' first | exact h | apply dropProvisional_moves | apply positionFault_moves | split

theorem noteMotion_moves (h : Moves s t) : Moves s (noteMotion t) := moves_position h _ fun k => k

theorem overspeedPitch_moves {pitchTime : Nat} (h : Moves s t) : Moves s (overspeedPitch pitchTime t) := by
  have k : Moves s { t with position := { t.position with
      overspeedRun := saturatingSucc 8 t.position.overspeedRun, overspeedOpen := true } } := by
    refine moves_position h _ fun k => ?_
    rw [PositionCounter.wf_iff] at k ⊢
    unfold saturatingSucc
    split <;> simp_all
  unfold overspeedPitch
  dsimp only
  with_reducible repeat' first | exact k | apply takeHaltCause_moves | apply sendReport_moves | split

theorem normalPitch_moves {pitchTime : Nat} (h : Moves s t) : Moves s (normalPitch pitchTime t) := by
  have k : Moves s { t with position := { t.position with overspeedRun := 0, overspeedOpen := false } } := by
    refine moves_position h _ fun k => ?_
    rw [PositionCounter.wf_iff] at k ⊢
    simp_all
  unfold normalPitch
  dsimp only
  split
  · exact sendReport_moves k
  · exact k

theorem judgePitch_moves (h : Moves s t) : Moves s (judgePitch t) := by
  unfold judgePitch
  try dsimp only
  with_reducible repeat' first | exact h | apply overspeedPitch_moves | apply normalPitch_moves | split

theorem countPitch_moves (h : Moves s t) : Moves s (countPitch t) := judgePitch_moves (moves_position h _ fun k => k)

theorem handOff_moves {i : Nat} (h : Moves s t) : Moves s (handOff t i) := by
  unfold handOff
  repeat' split
  · exact checkDrain_moves (pocketCrossing_moves h)
  · exact checkDrain_moves (trailCrossing_moves h)
  · exact h

theorem crossings_moves {order : List Nat} (h : Moves s t) : Moves s (crossings order t) := by
  unfold crossings
  refine foldl_moves (fun s i => handOff_moves (Moves.refl s)) ?_
  split
  · exact countPitch_moves h
  · exact h

/-- The step count never passes 2888 (Table 1.1). -/
theorem countedSteps_le (pc : PositionCounter) : countedSteps pc ≤ 2888 := by
  unfold countedSteps
  split <;> omega

/-- The step count is held at 0 in UNSYNCED and FAULTED (R3). -/
theorem countedSteps_held (pc : PositionCounter) :
    pc.sync = .provisional ∨ pc.sync = .synced ∨ countedSteps pc = 0 := by
  unfold countedSteps
  cases pc.sync <;> simp

theorem advance_moves {order : List Nat} (h : Moves s t) : Moves s (advance order t) := by
  have k := takeStepLimit_moves h
  have m : Moves s { takeStepLimit t with position := { (takeStepLimit t).position with
      position := ((takeStepLimit t).position.position + 1) % 2880, stepCount := countedSteps (takeStepLimit t).position,
      stallTimer := restartTimer (takeStepLimit t).config.stallTime (takeStepLimit t).position.stallTimer } } := by
    refine moves_position k _ fun w => ?_
    rw [PositionCounter.wf_iff] at w ⊢
    refine ⟨by dsimp only; omega, w.2.1, countedSteps_le _, w.2.2.2.1,
      countedSteps_held (takeStepLimit t).position, w.2.2.2.2.2⟩
  unfold advance
  dsimp only
  split
  · exact crossings_moves m
  · exact m

theorem recover_moves (h : Moves s t) : Moves s (recover t) := by
  refine moves_position h _ fun w => ?_
  rw [PositionCounter.wf_iff] at w ⊢
  exact ⟨by dsimp only; omega, by dsimp only; omega, w.2.2⟩

theorem forwardStep_moves {order : List Nat} (h : Moves s t) : Moves s (forwardStep order t) := by
  unfold forwardStep
  dsimp only
  split
  · exact advance_moves (noteMotion_moves h)
  · exact recover_moves (noteMotion_moves h)

theorem reversal_moves (h : Moves s t) : Moves s (reversal t) := by
  unfold reversal
  try dsimp only
  with_reducible repeat' first | exact h | apply dropProvisional_moves | apply positionFault_moves | split

theorem reverseStep_moves (h : Moves s t) : Moves s (reverseStep t) := by
  unfold reverseStep
  dsimp only
  split
  · rename_i hb
    refine moves_position (noteMotion_moves h) _ fun w => ?_
    rw [PositionCounter.wf_iff] at w ⊢
    exact ⟨by dsimp only; omega, by dsimp only; omega, w.2.2⟩
  · refine reversal_moves (moves_position (noteMotion_moves h) _ fun w => ?_)
    rw [PositionCounter.wf_iff] at w ⊢
    exact ⟨by dsimp only; omega, by dsimp only; omega, w.2.2⟩

theorem stallExpires_moves (h : Moves s t) : Moves s (stallExpires t) := by
  unfold stallExpires
  split
  · exact takeHaltCause_moves (moves_position h _ fun k => k)
  · exact h

theorem standstillExpires_moves (h : Moves s t) : Moves s (standstillExpires t) := by
  unfold standstillExpires
  split
  · exact checkStandstill_moves (moves_position h _ fun k => k)
  · exact h

theorem resyncPosition_moves (h : Moves s t) : Moves s (resyncPosition t) := by
  have k : Moves s { t with position := { t.position with
      sync := .unsynced, stepCount := 0, pitchTime := none, lastBoundary := none } } := by
    refine moves_position h _ fun k => ?_
    rw [PositionCounter.wf_iff] at k ⊢
    simp_all
  unfold resyncPosition
  dsimp only
  split
  · exact losePosition_moves k
  · exact k

end Sys2Proof.Machine
end

