-- ==== Sys2Proof/Laws/Requests.lean ====
section
/-! SUPPORT. A request that arrives on a free port is handed to its owner and answered in that event (R174 to R177); how
the fields of a body are read back from the bytes that carry them (R185). -/

namespace Sys2Proof.Machine

/-! ### Sampled inputs (log 4) -/

/-- The sampled inputs that a command brings change the inputs alone. -/
theorem sampleInputs_eq (inputs : List SampledInput) (s : State) :
    sampleInputs inputs s = { s with inputs := (sampleInputs inputs s).inputs } := by
  induction inputs generalizing s with
  | nil => rfl
  | cons i rest ih =>
    have h : setSampled s i = { s with inputs := (setSampled s i).inputs } := by cases i <;> rfl
    rw [show sampleInputs (i :: rest) s = sampleInputs rest (setSampled s i) from rfl, ih, h]

theorem sampleInputs_append (a b : List SampledInput) (s : State) :
    sampleInputs (a ++ b) s = sampleInputs b (sampleInputs a s) := List.foldl_append

/-- The inputs that have rows of their own keep their levels. -/
theorem sampleInputs_levels (inputs : List SampledInput) (s : State) :
    (sampleInputs inputs s).inputs.bellClosed = s.inputs.bellClosed
      ∧ (sampleInputs inputs s).inputs.bellOpen = s.inputs.bellOpen
      ∧ (sampleInputs inputs s).inputs.jawClosed = s.inputs.jawClosed := by
  induction inputs generalizing s with
  | nil => exact ⟨rfl, rfl, rfl⟩
  | cons i rest ih =>
    rw [show sampleInputs (i :: rest) s = sampleInputs rest (setSampled s i) from rfl]
    refine ⟨(ih _).1.trans ?_, (ih _).2.1.trans ?_, (ih _).2.2.trans ?_⟩ <;> cases i <;> rfl

/-! ### Fields of a body -/

@[simp] theorem byteAt_cons_zero (b : Byte) (l : List Byte) : byteAt (b :: l) 0 = b := rfl
@[simp] theorem byteAt_cons_succ (b : Byte) (l : List Byte) (i : Nat) : byteAt (b :: l) (i + 1) = byteAt l i := rfl

theorem byteAt_append_left (l m : List Byte) (i : Nat) (h : i < l.length) : byteAt (l ++ m) i = byteAt l i := by
  simp [byteAt, List.getD, List.getElem?_append_left h]

theorem byteAt_append_right (l m : List Byte) (i : Nat) : byteAt (l ++ m) (l.length + i) = byteAt m i := by
  simp [byteAt, List.getD, List.getElem?_append_right]

@[simp] theorem length_le16 (w : Word16) : (le16 w).length = 2 := rfl
@[simp] theorem length_le32 (w : Word32) : (le32 w).length = 4 := rfl

/-- A two-byte field read back from its bytes. -/
theorem word_of_bytes (w : Word16) : (w.extractLsb' 8 8 ++ w.extractLsb' 0 8 : BitVec 16) = w := by
  ext i hi
  simp only [BitVec.getElem_append, BitVec.getElem_extractLsb']
  split
  · simp [BitVec.getLsbD_eq_getElem hi]
  · rename_i h
    have : 8 + (i - 8) = i := by omega
    simp [this, BitVec.getLsbD_eq_getElem hi]

/-- A four-byte field read back from its bytes. -/
theorem dword_of_bytes (w : Word32) :
    ((w.extractLsb' 24 8 ++ w.extractLsb' 16 8 : BitVec 16) ++ (w.extractLsb' 8 8 ++ w.extractLsb' 0 8 : BitVec 16)
      : BitVec 32) = w := by
  apply BitVec.eq_of_toNat_eq
  simp only [BitVec.toNat_append, BitVec.extractLsb'_toNat, Nat.shiftRight_eq_div_pow]
  have := w.isLt
  rw [← Nat.shiftLeft_add_eq_or_of_lt (b := w.toNat / 2 ^ 16 % 2 ^ 8) (by omega),
    ← Nat.shiftLeft_add_eq_or_of_lt (b := w.toNat / 2 ^ 0 % 2 ^ 8) (by omega),
    ← Nat.shiftLeft_add_eq_or_of_lt (by simp only [Nat.shiftLeft_eq]; omega)]
  simp only [Nat.shiftLeft_eq]
  omega

@[simp] theorem wordAt_le16 (w : Word16) (l : List Byte) : wordAt (le16 w ++ l) 0 = w := word_of_bytes w
@[simp] theorem dwordAt_le32 (w : Word32) (l : List Byte) : dwordAt (le32 w ++ l) 0 = w := dword_of_bytes w

@[simp] theorem wordAt_cons (b : Byte) (l : List Byte) (i : Nat) : wordAt (b :: l) (i + 1) = wordAt l i := rfl
@[simp] theorem dwordAt_cons (b : Byte) (l : List Byte) (i : Nat) : dwordAt (b :: l) (i + 1) = dwordAt l i := rfl

/-! ### The owner's state -/

@[simp] theorem atOwner_position (port : Port) (f : Frame) (s : State) : (atOwner port f s).position = s.position := by
  cases port <;> rfl
@[simp] theorem atOwner_pockets (port : Port) (f : Frame) (s : State) : (atOwner port f s).pockets = s.pockets := by
  cases port <;> rfl
@[simp] theorem atOwner_gas (port : Port) (f : Frame) (s : State) : (atOwner port f s).gas = s.gas := by
  cases port <;> rfl
@[simp] theorem atOwner_crimp (port : Port) (f : Frame) (s : State) : (atOwner port f s).crimp = s.crimp := by
  cases port <;> rfl
@[simp] theorem atOwner_heads (port : Port) (f : Frame) (s : State) : (atOwner port f s).heads = s.heads := by
  cases port <;> rfl
@[simp] theorem atOwner_retirements (port : Port) (f : Frame) (s : State) :
    (atOwner port f s).retirements = s.retirements := by cases port <;> rfl
@[simp] theorem atOwner_trail (port : Port) (f : Frame) (s : State) : (atOwner port f s).trail = s.trail := by
  cases port <;> rfl
@[simp] theorem atOwner_trace (port : Port) (f : Frame) (s : State) : (atOwner port f s).trace = s.trace := by
  cases port <;> rfl
@[simp] theorem atOwner_recipes (port : Port) (f : Frame) (s : State) : (atOwner port f s).recipes = s.recipes := by
  cases port <;> rfl
@[simp] theorem atOwner_lots (port : Port) (f : Frame) (s : State) : (atOwner port f s).lots = s.lots := by
  cases port <;> rfl
@[simp] theorem atOwner_config (port : Port) (f : Frame) (s : State) : (atOwner port f s).config = s.config := by
  cases port <;> rfl
@[simp] theorem atOwner_inputs (port : Port) (f : Frame) (s : State) : (atOwner port f s).inputs = s.inputs := by
  cases port <;> rfl
@[simp] theorem atOwner_lineState (port : Port) (f : Frame) (s : State) :
    (atOwner port f s).line.state = s.line.state := by cases port <;> rfl
@[simp] theorem atOwner_latch (port : Port) (f : Frame) (s : State) : (atOwner port f s).line.latch = s.line.latch := by
  cases port <;> rfl
@[simp] theorem atOwner_safe (port : Port) (f : Frame) (s : State) : (atOwner port f s).line.safe = s.line.safe := by
  cases port <;> rfl
@[simp] theorem atOwner_haltRecord (port : Port) (f : Frame) (s : State) :
    (atOwner port f s).line.haltRecord = s.line.haltRecord := by cases port <;> rfl
@[simp] theorem atOwner_reports (port : Port) (f : Frame) (s : State) :
    (atOwner port f s).link.reports = s.link.reports := by cases port <;> rfl

/-! ### A request on a free port -/

/-- On a free port a whole frame is taken in the event of its arrival: link checks, owner, reply. -/
theorem receiveFrame_of_free (port : Port) (f : Frame) (s : State) (hlen : f.body.length ≤ 240)
    (h : freePort port s = true) :
    completes (receiveFrame port f s)
      = answered port f (answerRequest port f (atOwner port f s)).2 (answerRequest port f (atOwner port f s)).1 := by
  simp only [freePort, Bool.and_eq_true, decide_eq_true_eq, Bool.not_eq_true'] at h
  obtain ⟨⟨hq, hr⟩, hd⟩ := h
  cases port
  · simp only [portOf] at hq hr
    simp only [receiveFrame, hd, Bool.false_eq_true, if_false, hlen, if_true, frameArrives, placeFrame, hunt,
      restartSupervision, modifyPort, setPort, portOf, hq, hr, List.length_nil, Nat.zero_lt_succ, and_self, takeHead,
      List.nil_append, takeRequest, noteRequest, answered, atOwner]
  · simp only [portOf] at hq hr
    simp only [receiveFrame, hd, Bool.false_eq_true, if_false, hlen, if_true, frameArrives, placeFrame, hunt,
      modifyPort, setPort, portOf, hq, hr, List.length_nil, Nat.zero_lt_succ, and_self, takeHead,
      List.nil_append, takeRequest, noteRequest, answered, atOwner]

end Sys2Proof.Machine
end

