-- ==== Sys2Proof/Laws/Time.lean ====
section
/-! SUPPORT. What the end of an event and the passing of time do: the end done twice is the end done once, and time passes
from moment to moment within what `Elapses` allows. -/

namespace Sys2Proof.Machine

variable {s t : State}

/-! ### The end of an event -/

/-- The end of an event reads neither clock nor channels. -/
theorem finish_gas_timebase (g : GasUnit) (now : Nat) (s : State) :
    finish { s with gas := g, timebase := now } = { finish s with gas := g, timebase := now } := by
  unfold finish kickService kickLine refreshLamp
  dsimp only
  split <;> dsimp only [setPort] <;> split <;> simp_all [setPort]

/-- An idle line transmitter that has chosen has nothing left to begin. -/
theorem kickLine_kickLine (s : State) : kickLine (kickLine s) = kickLine s := by
  rcases ht : s.link.linePort.transmitter with _ | t <;> rcases ho : s.link.linePort.outstanding with _ | o <;>
    rcases hr : s.link.reports with _ | ⟨r, rest⟩ <;> simp [kickLine, setPort, ht, ho, hr]

/-- An idle service transmitter that has chosen has nothing left to begin. -/
theorem kickService_kickService (s : State) : kickService (kickService s) = kickService s := by
  rcases ht : s.link.servicePort.transmitter with _ | t <;> rcases ho : s.link.servicePort.outstanding with _ | o <;>
    rcases hr : s.link.servicePort.receiver with _ | b <;> simp [kickService, setPort, ht, ho, hr]

/-- The two transmitters choose independently of one another. -/
theorem kickLine_kickService (s : State) : kickLine (kickService s) = kickService (kickLine s) := by
  rcases ht : s.link.servicePort.transmitter with _ | t <;> rcases ho : s.link.servicePort.outstanding with _ | o <;>
    rcases hr : s.link.servicePort.receiver with _ | b <;>
    rcases hu : s.link.linePort.transmitter with _ | u <;> rcases hp : s.link.linePort.outstanding with _ | p <;>
    rcases hq : s.link.reports with _ | ⟨r, rest⟩ <;> simp [kickLine, kickService, setPort, ht, ho, hr, hu, hp, hq]

/-- The lamp and the line transmitter are independent of one another. -/
theorem refreshLamp_kickLine (s : State) : refreshLamp (kickLine s) = kickLine (refreshLamp s) := by
  unfold kickLine refreshLamp
  dsimp only
  split <;> rfl

/-- The lamp and the service transmitter are independent of one another. -/
theorem refreshLamp_kickService (s : State) : refreshLamp (kickService s) = kickService (refreshLamp s) := by
  unfold kickService refreshLamp
  dsimp only
  split <;> rfl

/-- What has ended has ended: the lamp is shown, and no idle transmitter has a frame to begin. -/
theorem finish_finish (s : State) : finish (finish s) = finish s := by
  have lamp : refreshLamp (refreshLamp s) = refreshLamp s := rfl
  simp only [finish, refreshLamp_kickService, refreshLamp_kickLine, lamp, kickLine_kickService, kickLine_kickLine,
    kickService_kickService]

/-! ### The passing of time -/

theorem fallDue_moves {c : ChannelNo} (h : Moves s t) : Moves s (fallDue c t) := by
  unfold fallDue
  with_reducible repeat' first | exact h | apply setTareDue_moves | split

theorem ageCreep_moves {c : ChannelNo} (h : Moves s t) : Moves s (ageCreep c t) := by
  unfold ageCreep
  with_reducible repeat' first | exact h | apply judgeCreep_moves | apply modifyChannel_moves | split

theorem passClock_moves (us : Nat) (s : State) : Moves { s with timebase := s.timebase + us } (passClock us s) :=
  moves_gas (Moves.refl { s with timebase := s.timebase + us }) id

/-- What the passing of `us` microseconds does at most between s and t: what `Moves` allows, the timebase advanced, and the
lamp and the transmitters as the ends of the moments leave them. -/
structure Elapses (us : Nat) (s t : State) : Prop where
  pending     : t.pending = s.pending
  config      : t.config = s.config
  inputs      : t.inputs = s.inputs
  timebase    : t.timebase = s.timebase + us
  recipes     : t.recipes = s.recipes
  masks       : (t.link.maskTrace, t.link.maskLot, t.link.maskFault)
                  = (s.link.maskTrace, s.link.maskLot, s.link.maskFault)
  latch       : t.line.latch = s.line.latch
  safe        : t.line.safe = s.line.safe
  supervision : (t.line.stage, t.line.quietTimer) = (s.line.stage, s.line.quietTimer)
  request     : t.line.lastRequest = s.line.lastRequest
  positionWf  : s.position.wf = true → t.position.wf = true
  lineWf      : s.line.wf = true → t.line.wf = true
  linkWf      : s.link.wf = true → t.link.wf = true
  tareQueue   : s.gas.tareQueue.Nodup → t.gas.tareQueue.Nodup

theorem Elapses.trans {u : State} {a b : Nat} (h : Elapses a s t) (k : Elapses b t u) : Elapses (a + b) s u :=
  ⟨k.pending.trans h.pending, k.config.trans h.config, k.inputs.trans h.inputs,
    by rw [k.timebase, h.timebase, Nat.add_assoc], k.recipes.trans h.recipes, k.masks.trans h.masks,
    k.latch.trans h.latch, k.safe.trans h.safe, k.supervision.trans h.supervision, k.request.trans h.request,
    k.positionWf ∘ h.positionWf, k.lineWf ∘ h.lineWf, k.linkWf ∘ h.linkWf, k.tareQueue ∘ h.tareQueue⟩

/-- Operations of the blocks stay within what a lapse of time allows. -/
theorem Moves.elapses {us : Nat} (h : Moves { s with timebase := s.timebase + us } t) : Elapses us s t :=
  ⟨h.pending, h.config, h.inputs, h.timebase, h.recipes, h.masks, h.latch, h.safe, h.supervision, h.request,
    h.positionWf, h.lineWf, h.linkWf, h.tareQueue⟩

theorem finish_elapses (s : State) : Elapses 0 s (finish s) :=
  ⟨by simp, by simp, by simp, by simp, by simp, finish_masks s, by simp, by simp, by simp, by simp, by simp,
    by simp [LineControl.wf], finish_link_wf s, by simp⟩

theorem moment_elapses (s : State) : Elapses 0 s (moment s) :=
  Elapses.trans (a := 0) (b := 0)
    (Moves.elapses (forChannels_moves (fun _ u => ageCreep_moves (Moves.refl u))
      (forChannels_moves (fun _ u => fallDue_moves (Moves.refl u)) (Moves.refl s))))
    (finish_elapses _)

theorem passTime_elapses (n us : Nat) (s : State) : Elapses us s (passTime n us s) := by
  induction n generalizing us s with
  | zero => exact (passClock_moves us s).elapses
  | succ n ih =>
    unfold passTime
    split
    · rename_i d _
      split
      · rename_i h
        have := ((passClock_moves d s).elapses.trans (moment_elapses _)).trans (ih (us - d) (moment (passClock d s)))
        rwa [show d + 0 + (us - d) = us by omega] at this
      · exact (passClock_moves us s).elapses
    · exact (passClock_moves us s).elapses

/-- The passing of time advances the timebase and otherwise acts within the channel unit, what its faults hand on, and the
ends of its moments. -/
theorem elapse_elapses (us : Nat) (s : State) : Elapses us s (elapse us s) := by
  unfold elapse
  split
  · rename_i h
    subst h
    exact (Moves.refl s).elapses
  · exact passTime_elapses _ us s

end Sys2Proof.Machine
end

