-- ==== Sys2Proof/Tests/Slice0.lean ====
section
/-! SUPPORT. Tests: ill-formed commands are refused by `WellFormed`, the worked numbers of the spec, one or two steps of each
family of commands, and for each statement of Certificates/Slice0/Obligations.lean states that meet its hypotheses
(`test_hypotheses_<name>`). -/

namespace Sys2Proof.Tests

-- one test after the other: `decide +kernel` waits for what stands before it
set_option Elab.async false

open Sys2Proof Sys2Proof.Machine

/-! ### Small states -/

/-- The state a command ends in; the reset state stands for a stop. -/
def endState (o : Outcome) : State :=
  match o with
  | .next s => s
  | .fault _ | .refused _ => State.reset

def afterCommand (i : Instr) (s : State) : State := endState (exec i s)

/-- The body of the reply that a port is sending or has outstanding. -/
def replyOf (port : Port) (s : State) : Option Frame :=
  match (portOf port s).outstanding, (portOf port s).transmitter with
  | some t, _ => some t.frame
  | none, some t => if t.what = .report then none else some t.frame
  | none, none => none

/-- A recipe with the default phases of Table 1.3. -/
def recipeA : RecipeWire :=
  { nameLength := 2, nameChars := (Vector.replicate 16 0).set 0 0x41 |>.set 1 0x42, productCode := 7,
    doseTarget := 6000, doseTolerance := 150, supplyMinimum := 3000,
    phases := { admitCheck := 90, cupCheck := 300, seat := 420, chargeOpen := 600, chargeLatest := 1140,
                chargeClose := 1500, crimpStart := 1620, crimpMeasure := 1860, release := 2160 },
    jawMode := 1, jawTime := 100, heightLow := 1000, heightHigh := 1200, forceLow := 4000, forceHigh := 6000,
    minimumPitch := 150000, bandPresence := 1, weightLow := 2400, weightHigh := 2600 }

/-- Slots 0 and 1 LOADED at generation 1, the latch clear. -/
def stocked : State :=
  { State.reset with
    recipes := { State.reset.recipes with
      slots := ((State.reset.recipes.slots.set 0 { generation := 1, content := some (recipeOf recipeA) }).set 1
        { generation := 1, content := some (recipeOf recipeA) }) },
    line := { State.reset.line with latch := none }, inputs := { State.reset.inputs with driveReady := true } }

def lot311 : LotRecord :=
  { lot := 311, slot := 0, generation := 1, admitted := 5, accepted := 1, scrapped := 0, held := 0, missing := 0, lost := 0,
    inFlight := 4, offers := 0 }

/-- The line in a state with the permit that goes with it, SYNCED, lot 311 current. -/
def lineIn (l : LineState) : State :=
  { stocked with
    line := { stocked.line with
      state := l, runPermit := permitIn l, drainCause := if l = .drain then some .hostStop else none },
    position := { stocked.position with
      sync := .synced, standstill := false, standstillTimer := some 500, position := 119, stepCount := 119 },
    lots := { stocked.lots with current := some lot311 } }

/-- The line in RUN, SYNCED, every pocket EMPTY, the channels IDLE, the gate confirmed. -/
def running : State :=
  { lineIn .run with
    pockets := Vector.replicate 24 { Pocket.initial with content := .empty },
    trail := { State.reset.trail with watch := none },
    gas := { GasUnit.initial with
      channels := Vector.replicate 4 { Channel.initial with state := .idle }, tareQueue := [] } }

def canA : CanRecord :=
  { lot := 311, serial := 3, pocket := 2, slot := 0, generation := 1, reasons := 0, channel := none, dose := none,
    height := none, peakForce := none, jawClosePhase := none, overspeed := false }

def bindA : Binding :=
  { slot := 0, generation := 1, lot := 311, phases := (recipeOf recipeA).phases, jawMode := .confirmed, jawTime := 100 }

/-- Pocket 2 carries a can in a step. -/
def canIn (step : PocketStep) (halted : Bool) (s : State) : State :=
  setPocket 2 { content := .can canA, step := step, binding := some bindA, halted := halted, seatWatch := false } s

/-- Channel 1 CHARGING for the can of pocket 2. -/
def chargingChannel (mass preact : Int) : Channel :=
  { Channel.initial with
    state := .charging, grant := some { pocket := 2, lot := 311, serial := 3, target := 6000, tolerance := 150 },
    accumulated := mass, preact := preact, valveOpen := true, noFlowTimer := some 80 }

def charging (mass preact : Int) : State :=
  setSelector 2 (some 1) (setChannel 1 (chargingChannel mass preact) (canIn .charging false running))

/-- Channel 1 SETTLING after a close with a cause. -/
def settling (dose mass preact : Int) (cause : CloseCause) (run : Nat) : State :=
  setChannel 1 { chargingChannel dose preact with
    state := .settling, valveOpen := false, noFlowTimer := none, lastClose := some (mass, cause), settleTimer := some 30,
    outOfBand := run } (canIn .charged false running)

/-- A stroke of pocket 2. -/
def stroke (kind : StrokeKind) (mode : JawMode) (condition : JawCondition) : Stroke :=
  { kind := kind, jawMode := mode, jawTime := 100, condition := condition,
    jawTimer := if condition = .waiting then some 100 else none,
    capture := if kind = .calibration then none else some 0 }

def stroking (kind : StrokeKind) (mode : JawMode) (condition : JawCondition) (s : State) : State :=
  setCrimp 2 { CrimpHead.initial with bellLowered := true, jawClosed := true, stroke := some (stroke kind mode condition) } s

def realEntry (pitch : Word32) (reasons : Reasons) : TrailEntry :=
  { kind := .real { canA with reasons := reasons }, dischargePitch := pitch, weight := none, lane := none }

/-- A trace record of can A. -/
def traceOf (n : Word32) (codes : Reasons) : TraceRecord :=
  { number := n, disposition := .accept, lane := .accept, kind := .real { canA with reasons := codes },
    dischargePitch := 94, gatePitch := 100, weight := none }

/-- The trail with entries, at a pitch count. -/
def trailWith (entries : List TrailEntry) (pitch : Word32) (s : State) : State :=
  { s with trail := { s.trail with entries := entries, watch := none },
           position := { s.position with pitchCounter := pitch } }

/-! ### Well-formed commands -/

theorem test_wellFormed_order_refused :
    WellFormed (.forwardEncoderStep 0 [] [25]) = false ∧ WellFormed (.forwardEncoderStep 0 [] [3, 3]) = false
      ∧ WellFormed (.forwardEncoderStep 0 [] [24, 0]) = true := by decide +kernel

theorem test_wellFormed_increment_refused :
    WellFormed (.meterIncrement 0 0 32768) = false ∧ WellFormed (.meterIncrement 0 0 (-32769)) = false
      ∧ WellFormed (.meterIncrement 0 0 (-32768)) = true := by decide +kernel

theorem test_wellFormed_frame_refused :
    WellFormed (.frameReceived .line ⟨{ kind := 1, tag := 0, body := List.replicate 241 0 }, []⟩) = false
      ∧ WellFormed (.frameReceived .line ⟨{ kind := 1, tag := 0, body := List.replicate 240 0 }, []⟩) = true := by decide +kernel

theorem test_wellFormed_unknown_kind_refused :
    WellFormed (.unknownKind .line 0x1B 0 []) = false ∧ WellFormed (.unknownKind .line 0x1C 0 []) = true
      ∧ WellFormed (.unknownKind .line 0 0 (List.replicate 241 0)) = false := by decide +kernel

/-! ### The worked numbers of the spec -/

theorem test_check_of_nine_digits : crc [0x31, 0x32, 0x33, 0x34, 0x35, 0x36, 0x37, 0x38, 0x39] = 0xAEE7 := by decide +kernel

/-- R58 and 3.10: the preact after tails. -/
theorem test_preact : nextPreact 240 6020 5760 = 245 := by decide +kernel

/-- 1.6.1: the overspeed threshold. -/
theorem test_overspeed_threshold : isOverspeed 142499 150000 = true ∧ isOverspeed 142500 150000 = false := by decide +kernel

/-- R9: crimp start is named before release. -/
theorem test_phase_refusal : recipeBadField { recipeA with phases := { recipeA.phases with crimpStart := 1590, release := 2450 } }
    = some 13 ∧ recipeBadField recipeA = none := by decide +kernel

/-- 6.5.1 and R188: the record of entry C, 39 bytes with flag word 003Fh, and a PURGE record of 17. -/
theorem test_trace_record_sizes :
    let c : TraceRecord :=
      { number := 1, disposition := .missing, lane := .scrap, dischargePitch := 40023, gatePitch := 40029,
        kind := .real { canA with reasons := reasonBit .weightLow, channel := some 1, dose := some 6020,
                                  height := some 1100, peakForce := some 5000, jawClosePhase := some 1650 },
        weight := some { reading := some 2380, late := false } }
    let purge : TraceRecord := { c with kind := .purge 3 (reasonBit .purge), weight := none }
    (traceBytes c).length = 39 ∧ traceFlags c = [0x3F, 0] ∧ (traceBytes purge).length = 17 := by decide +kernel

/-- Table 10.4 and Table 10.6: the lengths of the largest replies. -/
theorem test_reply_lengths :
    (statusBody State.reset).length = 115 ∧ (headBody 23 State.reset).length = 61 ∧ (lotBody State.reset).length = 103 := by
  decide +kernel

/-- 6.5.1: record 2512 on entry A is in band; B at its gate command has no weight and goes to HOLD; 2498 comes late; 2380
is below the band of C. -/
theorem test_weighing_example :
    let a := realEntry 40021 0
    let b := realEntry 40022 0
    let c := realEntry 40023 0
    let s := trailWith [a, b, c] 40024 running
    (takeWeight (some 2512) s).trail.entries = [{ a with weight := some { reading := some 2512, late := false } }, b, c]
      ∧ entryLane (missWeight b s) = .hold
      ∧ (matchWeight (some 2498) s { b with lane := some .hold }).weight = some { reading := some 2498, late := true }
      ∧ (matchWeight (some 2380) s c).kind = .real { canA with reasons := reasonBit .weightLow } := by decide +kernel

/-! ### The queue and the end of a command -/

theorem test_hypotheses_StepRunsTheFrontCommand :
    ({ State.reset with pending := [.indexPulse, .powerOn] } : State).pending = .indexPulse :: [.powerOn]
      ∧ step { State.reset with pending := [.indexPulse, .powerOn] }
        = exec .indexPulse { State.reset with pending := [.powerOn] } := ⟨rfl, rfl⟩

/-- Nothing waiting, and 1000 µs in which every IDLE channel is quiet. -/
theorem test_hypotheses_IdleStepPassesAMillisecondAndTimeActsOnChannels :
    State.reset.pending = [] ∧ running.config.tareIntervalTime * 1000000 ≤ 4294967295000
      ∧ (∀ d : ChannelNo, running.gas.channels[d].state = .idle ∧ running.gas.channels[d].tareDue = false
          ∧ running.gas.channels[d].timeSinceTare + 1000 < running.config.tareIntervalTime * 1000000
          ∧ running.gas.channels[d].creepWindow = [])
      ∧ (elapse 1000 running).timebase = 1000
      ∧ ((elapse 1000 running).gas.channels[0]).timeSinceTare = 1000 := by decide +kernel

/-- The premise that an event has ended, met at the same channels. -/
theorem test_hypotheses_IdleStepPassesAMillisecondAndTimeActsOnChannels_ended :
    finish (finish running) = finish running ∧ (finish running).gas = running.gas
      ∧ (finish running).config = running.config := by decide +kernel

/-- R178: a CREEP report that time makes ready while the line transmitter is idle is being sent before the command that the
time precedes, so no ALARM of that command overtakes it. -/
theorem test_report_of_a_moment_begins_at_the_moment :
    let s := setChannel 1 { Channel.initial with state := .idle, creepWindow := [(0, -30), (1, 45)] } running
    let quiet : State := { s with link := { s.link with
      reports := [], linePort := { s.link.linePort with transmitter := none, outstanding := none } } }
    let t := elapse 1000001 quiet
    (t.link.linePort.transmitter = some { what := .report, frame := reportFrame (.channelState 1 .fault (some .creep) 0) 0 })
      ∧ t.link.reports = [] := by decide +kernel

/-- The lamp's clauses in each line state, with latch and safe flag clear and set. -/
theorem test_hypotheses_EndOfACommandShowsTheLampAndBeginsFrames :
    (finish running).line.lamp = { green := .steady, amber := .off, red := .off }
      ∧ (finish (lineIn .drain)).line.lamp = { green := .blinking, amber := .off, red := .off }
      ∧ (finish (lineIn .starting)).line.lamp.green = .blinking
      ∧ (finish (lineIn .halt)).line.lamp = { green := .off, amber := .off, red := .steady }
      ∧ (finish { lineIn .halt with line := { (lineIn .halt).line with latch := some .guard, safe := true } }).line.lamp
        = { green := .off, amber := .steady, red := .blinking } := by decide +kernel

/-- 32 queued reports of one level. -/
def fullOf (r : Report) : State := { State.reset with link := { State.reset.link with reports := List.replicate 32 r } }

/-- A masked level, a queue with room, a full queue of a lower level and one of the same level. -/
theorem test_hypotheses_ReportsQueueByLevelThenAge :
    let masked : State := { State.reset with link := { State.reset.link with maskTrace := false } }
    let q := [Report.haltEntered .guard, .lineState .run .halt .start, .traceWaiting 8]
    let mixed : State := { State.reset with link := { State.reset.link with reports := q } }
    (masked.link.wf = true ∧ levelEnabled masked.link (reportLevel (.traceWaiting 8)) = false)
      ∧ (mixed.link.wf = true ∧ levelEnabled mixed.link (reportLevel (.strayCan 1)) = true ∧ mixed.link.reports.length < 32
        ∧ (sendReport (.strayCan 1) mixed).link.reports = [q[0], .strayCan 1, q[1], q[2]])
      ∧ ((fullOf (.traceWaiting 8)).link.wf = true ∧ (fullOf (.traceWaiting 8)).link.reports.length = 32
        ∧ reportLevel (.traceWaiting 8) < reportLevel (.strayCan 1)
        ∧ (sendReport (.strayCan 1) (fullOf (.traceWaiting 8))).link.dropped = 1
        ∧ (sendReport (.strayCan 1) (fullOf (.traceWaiting 8))).link.reports
          = .strayCan 1 :: List.replicate 31 (.traceWaiting 8))
      ∧ ((fullOf (.strayCan 2)).link.wf = true ∧ (fullOf (.strayCan 2)).link.reports.length = 32
        ∧ (sendReport (.strayCan 1) (fullOf (.strayCan 2))).link.reports = List.replicate 32 (.strayCan 2)) := by
  decide +kernel

/-! ### Position -/

/-- A pocket without a binding takes no recipe crossing. -/
theorem unboundPockets (p : PocketNo) (b : Binding) : running.pockets[p].binding ≠ some b := by
  simp [running, Pocket.initial, lineIn]

/-- Depth 1 and 4; outside SYNCED at step count 2887; between crossings in SYNCED. -/
theorem test_hypotheses_ForwardStepCountsAndHandsOnItsCrossings :
    let deep (n : Nat) : State := { running with position := { running.position with backlash := n } }
    let provisional : State := { running with position := { running.position with sync := .provisional, stepCount := 2887 } }
    let between : State := { running with position := { running.position with position := 2879, stepCount := 2887 } }
    let off : State := { between with position := { between.position with position := 2880 - 2 } }
    ((deep 1).position.backlash ≠ 0 ∧ (deep 4).position.backlash ≠ 0
        ∧ (afterCommand (.forwardEncoderStep 0 [] []) (deep 4)).position.position = 120)
      ∧ (provisional.position.backlash = 0 ∧ provisional.position.sync ≠ .synced ∧ provisional.position.stepCount < 2888
        ∧ (afterCommand (.forwardEncoderStep 0 [] []) provisional).position.stepCount = 2888)
      ∧ (off.position.backlash = 0 ∧ off.position.sync = .synced ∧ off.position.stepCount < 2888
        ∧ (off.position.position + 1) % 2880 % 120 ≠ 0
        ∧ ¬ (off.line.state = .drain ∧ pocketsEmpty off ∧ off.trail.entries = [])
        ∧ (afterCommand (.forwardEncoderStep 0 [] []) off).position.position = 2879
        ∧ (afterCommand (.forwardEncoderStep 0 [] []) off).pockets = off.pockets)
      ∧ (∀ (p : PocketNo) (b : Binding), off.pockets[p].binding = some b →
        phaseAt ((off.position.position + 1) % 2880) p ∉ phaseList b.phases) := by
  refine ⟨by decide +kernel, by decide +kernel, by decide +kernel, fun p b h => absurd h ?_⟩
  exact unboundPockets p b

/-- High-water 0 is a pitch boundary; an order of two hand-offs is well formed and comes first; the phases of a binding rise
between ADMIT and DISCHARGE, and the last of them is its release. -/
theorem test_hypotheses_ForwardStepCountsAndHandsOnItsCrossings_boundary :
    let s : State := { running with position := { running.position with
      position := 2879, pitchCounter := 0xFFFFFFFF, lastBoundary := some 7 } }
    let t := afterCommand (.forwardEncoderStep 150000 [] [24, 3]) s
    let bound := canIn .crimped false running
    (s.position.backlash = 0 ∧ s.position.sync = .synced ∧ s.position.stepCount < 2888 ∧ t.position.position = 0
        ∧ t.position.pitchCounter = 0 ∧ t.position.pitchTime = some 149993 ∧ t.position.lastBoundary = some 150000
        ∧ t.pockets[0].step = .offered)
      ∧ (orderWellFormed [24, 3] = true ∧ (handOffOrder [24, 3]).take 4 = [24, 3, 0, 1])
      ∧ (running.pockets[2].binding = none ∧ bound.pockets[2].binding = some bindA
        ∧ (phaseList bindA.phases).Pairwise (· < ·) ∧ (∀ x ∈ phaseList bindA.phases, 0 < x ∧ x < 2520)
        ∧ (pocketCrossing 2 2160 bound).pockets[2].step = .released
        ∧ 2159 ∉ phaseList bindA.phases ∧ pocketCrossing 2 2159 bound = bound) := by decide +kernel

/-- At high-water 120 pocket 1 crosses ADMIT and is offered a can; the pitch counter rises. -/
theorem test_forward_step_admits :
    let t := afterCommand (.forwardEncoderStep 1000 [] [1]) running
    t.position.pitchCounter = 1 ∧ t.pockets[1].step = .offered ∧ t.pockets[1].binding = some bindA ∧ t.infeedGate = true
      ∧ t.lots.current = some { lot311 with offers := 1 } ∧ t.position.lastBoundary = some 1000 := by decide +kernel

/-- At pocket 2's admit check, high-water 330, a can that is seen is admitted with the next serial. -/
theorem test_forward_step_takes_a_can :
    let s := setPocket 2 { Pocket.initial with content := .empty, step := .offered, binding := some bindA }
      { running with
        position := { running.position with position := 329 },
        lots := { running.lots with current := some { lot311 with offers := 1 } } }
    let t := afterCommand (.forwardEncoderStep 0 [.canPresent 2 true] []) s
    t.pockets[2].content = .can { canA with serial := 6 } ∧ t.pockets[2].step = .loaded
      ∧ t.lots.current = some { lot311 with admitted := 6, inFlight := 5 } := by decide +kernel

/-- Depth 0 and 3 below the limit, and depth 4 in each sync state. -/
theorem test_hypotheses_ReverseStepTakesUpBacklashOrReverses :
    let at_ (n : Nat) (y : SyncState) : State :=
      { running with position := { running.position with backlash := n, sync := y } }
    ((at_ 0 .synced).position.backlash < 4 ∧ (at_ 3 .synced).position.backlash < 4
        ∧ (afterCommand (.reverseEncoderStep 0) (at_ 3 .synced)).position.backlash = 4)
      ∧ (at_ 4 .unsynced).position.backlash = 4
      ∧ (afterCommand (.reverseEncoderStep 0) (at_ 4 .provisional)).position.sync = .unsynced
      ∧ (afterCommand (.reverseEncoderStep 0) (at_ 4 .faulted)).position.sync = .faulted
      ∧ (afterCommand (.reverseEncoderStep 0) (at_ 4 .synced)).position.sync = .faulted
      ∧ (afterCommand (.reverseEncoderStep 0) (at_ 4 .synced)).line.state = .halt := by decide +kernel

/-- Table 1.2: each sync state with step count 0, 2880 and 2879, in and out of STARTING; the step count limit. -/
theorem test_hypotheses_IndexPulseAndStepLimitActBySyncState :
    let at_ (y : SyncState) (n : Nat) (l : LineState) : State :=
      { lineIn l with position := { (lineIn l).position with sync := y, stepCount := n } }
    let deep : State := { running with position := { running.position with backlash := 1, sync := .provisional } }
    let sync (y : SyncState) (n : Nat) (l : LineState) := (afterCommand .indexPulse (at_ y n l)).position.sync
    let limit (y : SyncState) (n : Nat) := (afterCommand .stepCountReaches2888 (at_ y n .run)).position.sync
    (sync .unsynced 0 .run = .provisional ∧ sync .faulted 0 .run = .faulted ∧ sync .provisional 0 .run = .provisional
        ∧ sync .synced 0 .run = .synced ∧ sync .provisional 2880 .stopped = .synced
        ∧ sync .provisional 2879 .run = .provisional ∧ sync .synced 2880 .run = .synced ∧ sync .synced 2879 .run = .faulted
        ∧ (at_ .synced 2879 .run).position.backlash = 0 ∧ (afterCommand .indexPulse deep).position.sync = .provisional)
      ∧ ((afterCommand .indexPulse (at_ .provisional 2880 .starting)).line.state = .run
        ∧ channelsInService (at_ .provisional 2880 .starting) ≠ 0)
      ∧ ((at_ .synced 2887 .run).position.stepCount < 2888 ∧ limit .synced 2887 = .synced
        ∧ limit .provisional 2888 = .unsynced ∧ limit .synced 2888 = .faulted ∧ limit .unsynced 2888 = .unsynced) := by
  decide +kernel

/-- A position fault in RUN with a can in pocket 2: the can is given up and counted lost. -/
theorem test_position_fault :
    let t := positionFault .indexMismatch (canIn .seated false running)
    t.pockets[2] = clearedPocket .unknown ∧ t.lots.current = some { lot311 with lost := 1, inFlight := 3 }
      ∧ t.line.state = .halt ∧ t.trail.gateCommand = .hold := by decide +kernel

/-- The threshold itself is normal; below it the run rises, and at run 7 the line halts. -/
theorem test_hypotheses_PitchTimeIsJudgedAgainstTheCeiling :
    let at_ (time run : Nat) : State := { running with position := { running.position with
      pitchTime := some time, speedCeiling := 150000, overspeedRun := run, overspeedOpen := run ≠ 0 } }
    (19 * (at_ 142500 2).position.speedCeiling ≤ 20 * 142500 ∧ (judgePitch (at_ 142500 2)).position.overspeedRun = 0)
      ∧ (20 * 142499 < 19 * (at_ 142499 6).position.speedCeiling ∧ (judgePitch (at_ 142499 6)).position.overspeedRun = 7)
      ∧ ((at_ 142499 7).position.overspeedRun = 7 ∧ (judgePitch (at_ 142499 7)).line.state = .halt) := by decide +kernel

/-! ### Drive, stall and HALT -/

theorem test_hypotheses_DriveAndStandstillEventsAct :
    let stalled : State := { running with position := { running.position with stallTimer := some 120 } }
    let noDrive : State := { running with inputs := { running.inputs with driveReady := false } }
    let halted : State := lineIn .halt
    (running.position.stallTimer = none ∧ stalled.position.stallTimer ≠ none
        ∧ (afterCommand .stallTimerExpiry stalled).line.state = .halt)
      ∧ (true ≠ noDrive.inputs.driveReady ∧ noDrive.line.runPermit = true
        ∧ (afterCommand (.driveReadyChange true) noDrive).position.stallTimer = some 120)
      ∧ (false ≠ running.inputs.driveReady ∧ (afterCommand (.driveReadyChange false) running).line.state = .halt)
      ∧ (false ≠ stocked.inputs.driveReady ∧ stocked.line.runPermit = false)
      ∧ (stocked.position.standstillTimer = none ∧ running.position.standstillTimer ≠ none ∧ running.line.state ≠ .halt)
      ∧ (halted.position.standstillTimer ≠ none ∧ halted.line.state = .halt
        ∧ (afterCommand .standstillTimerExpiry halted).line.state = .stopped) := by decide +kernel

/-- A halt in RUN with a charging channel, a waiting pocket and a can; a later cause in HALT; STOPPED. -/
theorem test_hypotheses_HaltCauseEntersHaltOrJoinsTheRecord :
    let s := charging 3000 0
    let t := takeHaltCause .guard s
    permitIn s.line.state = true ∧ t.line.state = .halt ∧ t.gas.channels[1].lastClose = some (3000, .halt)
      ∧ t.pockets[2].content = .can { canA with reasons := reasonBit .halted } ∧ t.pockets[2].halted = true
      ∧ t.pockets[2].step = .charged
      ∧ ((takeHaltCause .leak t).line.haltRecord.map (·.later)) = some 8
      ∧ (takeHaltCause .guard t).line = t.line ∧ stocked.line.state = .stopped := by decide +kernel

/-- A waiting pocket, an interrupted calibration, an offer, and an ARMED changeover at a halt in RUN. -/
theorem test_hypotheses_HaltCauseEntersHaltOrJoinsTheRecord_pockets :
    let waiting := canIn .waitCharge false { running with gas := { running.gas with waiting := [2] } }
    let pass := setHead 5 { Head.initial with state := .reseating }
      (setPocket 5 { Pocket.initial with content := .empty, step := .calPass, binding := some bindA } waiting)
    let offer := setPocket 6 { Pocket.initial with content := .empty, step := .offered } pass
    let plan : ChangePlan := { target := 1, expected := 1, newLot := 312, boundary := .next }
    let s : State := { offer with lots := { offer.lots with changeover := .armed plan 3 (Vector.replicate 24 false) } }
    let t := takeHaltCause .guard s
    permitIn s.line.state = true ∧ s.line.state ≠ .drain
      ∧ t.pockets[2] = { s.pockets[2] with
          step := .charged, halted := true,
          content := .can { canA with reasons := addReasons 0 [.halted, .chargeMissed] } }
      ∧ t.pockets[5] = { s.pockets[5] with step := .idle } ∧ t.heads[5].state = .reseatPending
      ∧ t.pockets[6].halted = true
      ∧ t.lots = { s.lots with changeover := .none, lastOutcome := some (.failed .lineStop) } := by decide +kernel

/-! ### Gas channels -/

/-- Channel 1 in a state, in RUN. -/
def channelIn (state : ChannelState) : State := setChannel 1 { Channel.initial with state := state } running

/-- Each channel state; in CHARGING a mass one below the threshold 5760 and at it; in IDLE a sum of 20 and of 21. -/
theorem test_hypotheses_MeterIncrementActsByChannelState :
    let after (mg : Int) (s : State) := (afterCommand (.meterIncrement 0 1 mg) s).gas.channels[1]
    ((charging 5750 240).gas.channels[1].state = .charging ∧ (charging 5750 240).gas.channels[1].grant ≠ none
        ∧ (after 9 (charging 5750 240)).state = .charging ∧ (after 9 (charging 5750 240)).accumulated = 5759)
      ∧ ((after 10 (charging 5750 240)).state = .settling ∧ (after 10 (charging 5750 240)).lastClose = some (5760, .target))
      ∧ (after 5 (settling 5760 5760 240 .target 0)).accumulated = 5765
      ∧ (after 32767 (channelIn .tare)).standing = 32767 ∧ (after (-3) (channelIn .tareWait)).standing = -3
      ∧ ((after 20 (channelIn .idle)).state = .idle ∧ (after 20 (channelIn .idle)).creepWindow = [(0, 20)])
      ∧ (20 < creepSum (channelIn .idle).gas.channels[1].creepWindow + 21 ∧ (channelIn .idle).gas.tareQueue.Nodup
        ∧ (after 21 (channelIn .idle)).state = .fault ∧ (after 21 (channelIn .idle)).standing = 21)
      ∧ (after 7 (channelIn .fault)).standing = 0 ∧ (channelIn .off).gas.channels[1].state = .off := by decide +kernel

/-- Increments of one moment leave the creep window together: −30 and +30 leave 15, which is no CREEP. -/
theorem test_creep_increments_of_one_moment_leave_together :
    let s := setChannel 1 { Channel.initial with state := .idle, creepWindow := [(0, -30), (0, 30), (5, 15)] } running
    (elapse 1000000 s).gas.channels[1].creepWindow = [(0, -30), (0, 30), (5, 15)]
      ∧ (elapse 1000001 s).gas.channels[1].state = .idle
      ∧ (elapse 1000001 s).gas.channels[1].creepWindow = [(5, 15)] := by decide +kernel

/-- A CREEP that comes before the tare interval in one long lapse of time is a CREEP, and the tare then never falls due;
without it the tare falls due at 60 s and the clock then holds. -/
theorem test_elapse_takes_its_moments_in_order :
    let s (w : List (Nat × Int)) := setChannel 1 { Channel.initial with state := .idle, creepWindow := w } running
    let creep := (elapse 100000000 (s [(0, -30), (1, 45)])).gas.channels[1]
    let tare := (elapse 100000000 (s [])).gas.channels[1]
    (creep.state = .fault ∧ creep.faultCause = some .creep ∧ creep.tareDue = false ∧ creep.timeSinceTare = 1000001)
      ∧ (tare.state = .tareWait ∧ tare.tareDue = true ∧ tare.timeSinceTare = 60000000)
      ∧ (elapse 100000000 (s [])).gas.tareQueue = [0, 1, 2, 3] := by decide +kernel

/-- 59.999999 s since tare: an IDLE channel falls due at 1 µs and not before, a CHARGING one only becomes due. A window whose
increments of the moment 0 leave at 1000001 µs and not before, with a sum left of 20 and of 21. -/
theorem test_hypotheses_IdleStepPassesAMillisecondAndTimeActsOnChannels_moments :
    let idle (w : List (Nat × Int)) (time : Nat) : State :=
      setChannel 1 { Channel.initial with state := .idle, timeSinceTare := time, creepWindow := w } running
    let busy : State := setChannel 1 { chargingChannel 0 0 with timeSinceTare := 59999999 } (charging 0 0)
    let at1 (s : State) : Channel := s.gas.channels[1]
    ((at1 (idle [] 59999999)).tareDue = false ∧ (at1 (elapse 0 (idle [] 59999999))).state = .idle
        ∧ (at1 (elapse 1 (idle [] 59999999))).state = .tare ∧ (elapse 1 (idle [] 59999999)).gas.tareQueue = [1])
      ∧ ((at1 busy).state = .charging ∧ (at1 (elapse 1 busy)).state = .charging ∧ (at1 (elapse 1 busy)).tareDue = true)
      ∧ ((at1 (elapse 1000000 (idle [(0, -9), (5, 20)] 0))).creepWindow = [(0, -9), (5, 20)]
        ∧ (at1 (elapse 1000001 (idle [(0, -9), (5, 20)] 0))).creepWindow = [(5, 20)])
      ∧ ((idle [(0, -9), (5, 21)] 0).gas.tareQueue.Nodup
        ∧ (at1 (elapse 1000001 (idle [(0, -9), (5, 21)] 0))).faultCause = some .creep) := by decide +kernel

/-- Pocket 2 waits; channel 1 is the lowest IDLE one; then the charge closes. -/
theorem test_hypotheses_ChargesOpenByGrantAndCloseIntoSettling :
    let s : State := setChannel 0 { Channel.initial with state := .tare } (canIn .waitCharge false
      { running with gas := { running.gas with waiting := [2] } })
    (s.gas.supply = .ok ∧ s.gas.waiting = [2] ∧ s.gas.channels[1].state = .idle
        ∧ (∀ d : ChannelNo, d < 1 → s.gas.channels[d].state ≠ .idle) ∧ s.pockets[2].step = .waitCharge
        ∧ s.pockets[2].content = .can canA ∧ s.pockets[2].binding = some bindA
        ∧ recipeIn bindA.slot s = some (recipeOf recipeA)
        ∧ (grantOnce s).gas.channels[1].grant = some { pocket := 2, lot := 311, serial := 3, target := 6000, tolerance := 150 }
        ∧ (grantOnce s).gas.selectors[2] = some 1 ∧ (grantOnce s).pockets[2].step = .charging)
      ∧ ((charging 5760 240).gas.channels[1].grant ≠ none
        ∧ (closeCharge 1 .target (charging 5760 240)).pockets[2].step = .charged) := by decide +kernel

theorem test_hypotheses_MeterErrorAndNoFlowActByChannelState :
    let error (s : State) := (afterCommand (.meterError 1) s).gas.channels[1]
    let noFlow (s : State) := (afterCommand (.noFlowTimerExpiry 1) s).gas.channels[1]
    (error (charging 100 0)).lastClose = some (100, .meter)
      ∧ (error (settling 100 100 0 .target 0)).settleError = true
      ∧ ((channelIn .idle).gas.tareQueue.Nodup ∧ (error (channelIn .idle)).faultCause = some .meter)
      ∧ ((channelIn .tareWait).gas.tareQueue.Nodup ∧ (error (channelIn .tareWait)).state = .fault)
      ∧ (error (channelIn .tare)).state = .fault ∧ (error (channelIn .off)).state = .off
      ∧ (error (channelIn .fault)).faultCause = none
      ∧ ((charging 100 0).gas.channels[1].noFlowTimer ≠ none ∧ (noFlow (charging 100 0)).lastClose = some (100, .noFlow))
      ∧ ((channelIn .idle).gas.channels[1].noFlowTimer = none ∧ (noFlow (channelIn .idle)).state = .idle) := by
  decide +kernel

/-- R58's numbers; each band, cause and destination. -/
theorem test_hypotheses_SettleEndDerivesTheDoseResult :
    let end_ (s : State) := afterCommand (.settleTimerExpiry 1) s
    let inBand := settling 6020 5760 240 .target 2
    let low := settling 5849 5800 0 .target 2
    let due (d o : Bool) (s : State) : State := modifyChannel 1 (fun ch => { ch with tareDue := d, offPending := o }) s
    (inBand.gas.channels[1].state = .settling ∧ inBand.gas.channels[1].settleTimer ≠ none ∧ inBand.gas.tareQueue.Nodup
        ∧ inBand.gas.waiting = [] ∧ (end_ inBand).gas.channels[1].preact = 245 ∧ (end_ inBand).gas.channels[1].state = .idle
        ∧ (end_ inBand).gas.channels[1].outOfBand = 0
        ∧ (end_ inBand).pockets[2].content = .can { canA with dose := some 6020 })
      ∧ ((end_ low).gas.channels[1].faultCause = some .doseRun
        ∧ (end_ low).pockets[2].content = .can { canA with dose := some 5849, reasons := reasonBit .doseUnder })
      ∧ ((end_ (settling 6151 6100 0 .forced 1)).gas.channels[1].outOfBand = 2
        ∧ (end_ (settling 6151 6100 0 .forced 1)).gas.channels[1].preact = 0)
      ∧ (end_ (settling 5000 5000 0 .noFlow 0)).gas.channels[1].faultCause = some .noFlow
      ∧ (end_ (settling 5000 5000 0 .meter 0)).gas.channels[1].faultCause = some .meter
      ∧ (end_ (settling 6000 5900 0 .halt 0)).pockets[2].content
        = .can { canA with dose := some 6000, reasons := reasonBit .chargeAborted }
      ∧ (settling 6020 5760 240 .target 2).gas.waiting = []
        ∧ (end_ (setPocket 2 Pocket.initial inBand)).pockets[2] = Pocket.initial
      ∧ (end_ (due false true inBand)).gas.channels[1].state = .off
      ∧ (end_ (due true false inBand)).gas.channels[1].state = .tare := by decide +kernel

/-- Standing readings of 300 and 301 mg; a tare with off pending; the interval reached in each kind of state. -/
theorem test_hypotheses_TaresEndAndFallDue :
    let taring (standing : Int) (off : Bool) : State := setChannel 1
      { Channel.initial with state := .tare, tareTimer := some 40, standing := standing, offPending := off }
      { running with gas := { running.gas with tareQueue := [1, 3] } }
    let end_ (s : State) := afterCommand (.tareTimerExpiry 1) s
    let reach (s : State) := (afterCommand (.tareIntervalTimeReached 1) s).gas
    ((taring 300 false).gas.channels[1].state = .tare ∧ (taring 300 false).gas.channels[1].tareTimer ≠ none
        ∧ (taring 300 false).gas.tareQueue.Nodup ∧ (end_ (taring 300 false)).gas.channels[1].state = .idle
        ∧ (end_ (taring 300 false)).gas.channels[1].zeroOffset = 300 ∧ (end_ (taring 300 false)).gas.channels[3].state = .tare)
      ∧ (end_ (taring (-301) false)).gas.channels[1].faultCause = some .drift
      ∧ (end_ (taring (-300) true)).gas.channels[1].state = .off
      ∧ ((reach (charging 0 0)).channels[1].tareDue = true ∧ (reach (charging 0 0)).channels[1].state = .charging)
      ∧ ((reach (channelIn .idle)).channels[1].state = .tare ∧ (reach (channelIn .idle)).tareQueue = [1])
      ∧ (reach (channelIn .off)).channels[1].tareDue = false := by decide +kernel

/-- A minimum in force of 3000 kPa: 2999 and 3000 from OK, 3099 and 3100 from LOW; and none. -/
theorem test_hypotheses_SupplyStateFollowsThePressure :
    let at_ (state : SupplyState) (m : Option Nat) : State :=
      { running with gas := { running.gas with supply := state, minInForce := m } }
    let after (p : Word16) (s : State) := (afterCommand (.supplyPressureChange p) s).gas.supply
    after 2999 (at_ .ok (some 3000)) = .low ∧ after 3000 (at_ .ok (some 3000)) = .ok ∧ after 0 (at_ .low none) = .ok
      ∧ after 3100 (at_ .low (some 3000)) = .ok ∧ after 3099 (at_ .low (some 3000)) = .low := by decide +kernel

/-! ### Heads between crossings and at them -/

theorem test_hypotheses_BellInputsSeatAndCloseTheWatch :
    let watched : State := modifyPocket 2 (fun k => { k with seatWatch := true }) (canIn .cupped false running)
    let open_ : State := setCrimp 2 { CrimpHead.initial with watch := some (canId canA) } running
    (watched.inputs.bellClosed[2] = false ∧ watched.pockets[2].seatWatch = true
        ∧ (afterCommand (.bellClosedInput 2 true) watched).pockets[2].step = .seated)
      ∧ running.pockets[2].seatWatch = false
      ∧ (open_.inputs.bellOpen[2] = false ∧ (afterCommand (.bellOpenInput 2 true) open_).crimp[2].watch = none)
      ∧ (afterCommand (.bellOpenInput 2 false) open_).crimp[2].watch = some (canId canA) := by decide +kernel

/-- Pocket 2 at high-water 1860 stands at phase 1620. -/
def crimping (kind : StrokeKind) (mode : JawMode) (condition : JawCondition) : State :=
  stroking kind mode condition (canIn .crimping false
    { running with position := { running.position with position := 1860 } })

theorem test_hypotheses_JawEventsMoveTheStroke :
    let can : StrokeKind := .can (canId canA)
    let closed (s : State) := afterCommand (.jawClosedInput 2 true) s
    let timed (s : State) := afterCommand (.jawTimerExpiry 2) s
    let force (n : Int) (s : State) := ((afterCommand (.jawForceReading 2 n) s).crimp[2].stroke.bind (·.capture))
    (running.inputs.jawClosed[2] = false ∧ running.crimp[2].stroke = none)
      ∧ (closed (crimping can .timed .waiting)).crimp = (crimping can .timed .waiting).crimp
      ∧ (closed (crimping can .confirmed .timedOut)).crimp = (crimping can .confirmed .timedOut).crimp
      ∧ (closed (crimping .calibration .confirmed .waiting)).crimp[2].stroke = some (stroke .calibration .confirmed .closed)
      ∧ ((closed (crimping can .confirmed .waiting)).pockets[2].content = .can { canA with jawClosePhase := some 1620 }
        ∧ (closed (crimping can .confirmed .waiting)).crimp[2].stroke = some (stroke can .confirmed .closed))
      ∧ (timed (crimping can .timed .waiting)).crimp[2].stroke = some (stroke can .timed .closed)
      ∧ (timed (crimping .calibration .confirmed .waiting)).crimp[2].stroke = some (stroke .calibration .confirmed .timedOut)
      ∧ (timed (crimping can .confirmed .waiting)).pockets[2].content = .can { canA with reasons := reasonBit .jawTimeout }
      ∧ force 65536 (crimping can .confirmed .closed) = some 65535 ∧ force (-1) (crimping can .confirmed .closed) = some 0
      ∧ force 9 (crimping .calibration .confirmed .closed) = none := by decide +kernel

/-- A fit pocket, one whose head is not in service, and one whose reseat starts. -/
theorem test_hypotheses_AdmitOffersToFitPocketsAndAdmitCheckTakesTheCan :
    let pending : State := setHead 2 { Head.initial with state := .reseatPending } running
    (running.pockets[2].step = .idle ∧ running.pockets[2].content = .empty
        ∧ running.trace.records.length + cansInFlight running + offeredPockets running + 1 ≤ 128
        ∧ (pocketCrossing 2 0 running).pockets[2].step = .offered)
      ∧ ((lineIn .drain).pockets[2].step = .idle ∧ (pocketCrossing 2 0 (lineIn .drain)).pockets[2].step = .idle)
      ∧ (pending.pockets[2].step = .idle ∧ pending.heads[2].state = .reseatPending
        ∧ (pocketCrossing 2 0 pending).pockets[2].step = .calPass
        ∧ (pocketCrossing 2 0 pending).heads[2].state = .reseating) := by decide +kernel

/-- The last place of the trace buffer granted and one too many withheld, with the admission-held flag clear and set; the
binding and the count of an offer; an offer that counts down to the boundary of a changeover; no lot. -/
theorem test_hypotheses_AdmitOffersToFitPocketsAndAdmitCheckTakesTheCan_query :
    let full (n : Nat) (held : Bool) : State :=
      { running with trace := { running.trace with records := List.replicate n (traceOf 1 0), admissionHeld := held } }
    let t (s : State) : State := pocketCrossing 2 0 s
    let armedNow : State := { running with lots := { running.lots with
      changeover := .armed { target := 1, expected := 1, newLot := 312, boundary := .next } 0 (Vector.replicate 24 false) } }
    ((t (full 127 true)).pockets[2] = { running.pockets[2] with step := .offered, binding := some bindA }
        ∧ (t (full 127 true)).trace.admissionHeld = false
        ∧ (t (full 127 true)).link.reports = (sendReport (.admissionHeld false 127 0 0) running).link.reports
        ∧ (t (full 127 true)).lots.current = some { lot311 with offers := 1 })
      ∧ ((t (full 128 false)).pockets[2] = { running.pockets[2] with binding := some bindA }
        ∧ (t (full 128 false)).trace.admissionHeld = true
        ∧ (t (full 128 false)).link.reports = (sendReport (.admissionHeld true 128 0 0) running).link.reports
        ∧ (t (full 128 false)).lots = running.lots ∧ (t (full 128 true)).link = running.link)
      ∧ ((t armedNow).pockets[2].binding = some { bindA with slot := 1, lot := 312 }
        ∧ (t armedNow).lots = (offerLot 2 armedNow).lots)
      ∧ (t { running with lots := LotRegister.initial, line := { running.line with state := .drain } }).pockets[2]
        = running.pockets[2] := by decide +kernel

/-- Admit check of a marked offer in an open episode with a can, of a counted offer without one, and of a pocket that is not
OFFERED. -/
theorem test_hypotheses_AdmitOffersToFitPocketsAndAdmitCheckTakesTheCan_check :
    let plan : ChangePlan := { target := 1, expected := 1, newLot := 312, boundary := .next }
    let s0 := setPocket 2 { Pocket.initial with content := .empty, step := .offered, binding := some bindA, halted := true }
      { running with
        position := { running.position with overspeedOpen := true, overspeedRun := 1 },
        lots := { running.lots with
          current := some { lot311 with offers := 1 },
          changeover := .armed plan 0 ((Vector.replicate 24 false).set 2 true) } }
    let seen (v : Bool) : State := { s0 with inputs := { s0.inputs with canPresent := s0.inputs.canPresent.set 2 v } }
    let taken := admitCheckCrossing 2 bindA (seen true)
    let missed := admitCheckCrossing 2 bindA (seen false)
    (openLot 311 (seen true) = some { lot311 with offers := 1 } ∧ (seen true).lots.closing = none
        ∧ taken.pockets[2].content = .can { canA with
            serial := 6, overspeed := true, reasons := addReasons 0 [.overspeed, .halted] }
        ∧ taken.pockets[2].halted = true ∧ taken.lots.current = some { lot311 with admitted := 6, inFlight := 5 }
        ∧ taken.lots.changeover = .armed plan 0 (Vector.replicate 24 false))
      ∧ (missed.pockets[2] = { s0.pockets[2] with step := .idle, halted := false } ∧ missed.lots.current = some lot311
        ∧ missed.lots.changeover = .armed plan 1 (Vector.replicate 24 false))
      ∧ admitCheckCrossing 2 bindA running = running := by decide +kernel

theorem test_hypotheses_CupSeatAndChargeCrossingsActByStep :
    let cup (s : State) : State := { s with inputs := { s.inputs with cupPresent := s.inputs.cupPresent.set 2 true } }
    let noIdle (s : State) : State := { s with gas := GasUnit.initial }
    let loaded := canIn .loaded false running
    let cupped := canIn .cupped false running
    let seated (l : LineState) := noIdle (canIn .seated false { running with line := (lineIn l).line })
    (loaded.pockets[2].content = .can canA ∧ (cupCheckCrossing 2 (cup loaded)).pockets[2].step = .cupped
        ∧ (cupCheckCrossing 2 loaded).pockets[2].content = .can { canA with reasons := reasonBit .noCup }
        ∧ (canIn .loaded true running).pockets[2].halted = true)
      ∧ ((seatCrossing 2 cupped).pockets[2].seatWatch = true ∧ (seatCrossing 2 cupped).crimp[2].bellLowered = true
        ∧ (chargeOpenCrossing 2 cupped).pockets[2].content = .can { canA with reasons := reasonBit .seatFail })
      ∧ ((seated .run).pockets[2].step = .seated ∧ 2 ∉ (seated .run).gas.waiting
        ∧ (∀ c : ChannelNo, (seated .run).gas.channels[c].state ≠ .idle)
        ∧ (chargeOpenCrossing 2 (seated .run)).gas.waiting = [2])
      ∧ (chargeOpenCrossing 2 (seated .halt)).pockets[2].content = .can { canA with reasons := reasonBit .chargeMissed } := by
  decide +kernel

/-- Charge latest of a waiting pocket and of another; charge close with one channel that charges for the pocket and none. -/
theorem test_hypotheses_CupSeatAndChargeCrossingsActByStep_charge :
    let waiting := canIn .waitCharge false { running with gas := { running.gas with waiting := [7, 2, 9] } }
    let open_ := charging 100 0
    ((removeWaiting 2 waiting).gas.waiting = [7, 9]
        ∧ (removeWaiting 2 waiting).pockets[2].content = .can { canA with reasons := reasonBit .chargeMissed }
        ∧ (removeWaiting 2 waiting).pockets[2].step = .charged)
      ∧ (2 ∉ open_.gas.waiting ∧ removeWaiting 2 open_ = open_)
      ∧ (chargesPocket 2 open_.gas.channels[1] = true
        ∧ (∀ d : ChannelNo, d ≠ 1 → chargesPocket 2 open_.gas.channels[d] = false)
        ∧ (chargeCloseCrossing 2 open_).gas.channels[1].lastClose = some (100, .forced))
      ∧ chargeCloseCrossing 3 open_ = open_ := by decide +kernel

/-- Crimp start of a CHARGED can with its cup in both jaw modes and without it, of a halted one, and of a CAL_PASS pocket. -/
theorem test_hypotheses_CrimpStartOpensTheStrokeAndMeasureJudgesIt_start :
    let cup (s : State) : State := { s with inputs := { s.inputs with
      cupPresent := s.inputs.cupPresent.set 2 true, jawClosed := s.inputs.jawClosed.set 2 true } }
    let timed : Binding := { bindA with jawMode := .timed }
    let charged := canIn .charged false running
    let pass := setPocket 2 { Pocket.initial with content := .empty, step := .calPass, binding := some bindA } running
    let started (b : Binding) := crimpStartCrossing 2 b (cup charged)
    let bare := crimpStartCrossing 2 bindA charged
    ((started timed).pockets[2].step = .crimping ∧ (started timed).pockets[2].content = .can canA
        ∧ (started timed).crimp[2].stroke = some (stroke (.can (canId canA)) .timed .waiting)
        ∧ (started timed).crimp[2].jawClosed = true)
      ∧ ((started bindA).pockets[2].content = .can { canA with jawClosePhase := some 1620 }
        ∧ (started bindA).crimp[2].stroke = some (stroke (.can (canId canA)) .confirmed .closed))
      ∧ (bare.pockets[2].content = .can { canA with reasons := addReasons 0 [.heightLow, .forceLow] }
        ∧ bare.pockets[2].step = .charged ∧ bare.crimp = charged.crimp)
      ∧ crimpStartCrossing 2 bindA (canIn .charged true running) = canIn .charged true running
      ∧ (crimpStartCrossing 2 bindA pass).crimp[2].stroke = some (stroke .calibration .confirmed .waiting)
      ∧ crimpMeasureCrossing 2 bindA charged = charged := by decide +kernel

/-- A height at its high bound is in band, a peak above its high bound is not; WAITING adds JAW_LATE. -/
theorem test_hypotheses_CrimpStartOpensTheStrokeAndMeasureJudgesIt :
    let s0 := crimping (.can (canId canA)) .confirmed .waiting
    let s : State := setCrimp 2 { s0.crimp[2] with stroke := (s0.crimp[2].stroke.map fun st => { st with capture := some 6001 }) }
      { s0 with inputs := { s0.inputs with displacement := s0.inputs.displacement.set 2 1200 } }
    (s.crimp[2].stroke.map (·.kind)) = some (.can (canId canA)) ∧ (s.crimp[2].stroke.bind (·.capture)) = some 6001
      ∧ s.pockets[2].step = .crimping ∧ s.pockets[2].halted = false ∧ s.pockets[2].content = .can canA
      ∧ recipeIn bindA.slot s = some (recipeOf recipeA)
      ∧ (crimpMeasureCrossing 2 bindA s).pockets[2].content = .can { canA with
          height := some 1200, peakForce := some 6001, reasons := addReasons 0 [.jawLate, .forceHigh] } := by decide +kernel

theorem test_hypotheses_ReleaseFreesTheCanAndTakesItsVerdict :
    let bad : State := setPocket 2 { content := .can { canA with reasons := reasonBit .heightLow }, step := .crimped,
                                     binding := some bindA, halted := false, seatWatch := false } running
    let calPass : State := setPocket 2 { Pocket.initial with content := .empty, step := .calPass }
      (stroking .calibration .timed .closed running)
    (canIn .crimped true running).pockets[2].content = .can canA
      ∧ (releaseCrossing 2 (canIn .crimped true running)).heads = running.heads
      ∧ (releaseCrossing 2 (canIn .crimped false running)).heads[2].lastCan = some (canId canA)
      ∧ (releaseCrossing 2 bad).heads[2].consecutive = 1 ∧ (releaseCrossing 2 bad).heads[2].tallies.crimp = 1
      ∧ (releaseCrossing 2 bad).crimp[2].watch = some (canId canA)
      ∧ ((releaseCrossing 2 calPass).crimp[2].jawClosed = false ∧ calPass.pockets[2].step = .calPass
        ∧ calPass.pockets[2].content = .empty)
      ∧ (running.pockets[2].step = .idle ∧ releaseCrossing 2 running = running) := by decide +kernel

/-- The head after a faulty can: below the threshold 2 and at it in IN_SERVICE, in PROBATION with the table below L, at L in RUN
and full, and in OUT; after a clean one in PROBATION with remainder 1 and 2. -/
theorem test_hypotheses_ReleaseFreesTheCanAndTakesItsVerdict_head :
    let entry : Retirement := { pocket := 9, cause := .cal, lastCan := none }
    let at_ (reasons : Reasons) (h : Head) (n : Nat) : State :=
      { setHead 2 h (setPocket 2 { content := .can { canA with reasons := reasons }, step := .crimped, binding := some bindA,
                                   halted := false, seatWatch := false } running) with
        retirements := List.replicate n entry }
    let bad (h : Head) (n : Nat) := releaseCrossing 2 (at_ (reasonBit .heightLow) h n)
    let clean (n : Nat) := releaseCrossing 2 (at_ 0 { Head.initial with state := .probation, consecutive := 3, remainder := n } 0)
    let probation : Head := { Head.initial with state := .probation, remainder := 2 }
    ((bad Head.initial 0).heads[2].state = .inService
        ∧ (bad { Head.initial with consecutive := 1 } 0).heads[2].state = .reseatPending)
      ∧ ((bad probation 0).heads[2].state = .retired ∧ (bad probation 0).line = running.line
        ∧ (bad probation 0).retirements = [{ pocket := 2, cause := .threshold, lastCan := some (canId canA) }])
      ∧ ((bad probation 4).heads[2].state = .retired ∧ (bad probation 4).line.state = .drain
        ∧ (bad probation 4).line.drainCause = some .retirementLimit)
      ∧ ((bad probation 5).heads[2].state = .out ∧ (bad probation 5).heads[2].overflow = true
        ∧ (bad probation 5).line = running.line)
      ∧ ((clean 1).heads[2].state = .inService ∧ (clean 1).heads[2].consecutive = 0)
      ∧ ((clean 2).heads[2].state = .probation ∧ (clean 2).heads[2].remainder = 1)
      ∧ (bad { Head.initial with state := .out } 0).heads[2].state = .out := by decide +kernel

theorem test_hypotheses_DischargeHandsOnGivesUpOrFindsTheBellStuck :
    let can (l : LineState) := canIn .released false { running with line := (lineIn l).line }
    let unknown (l : LineState) := setPocket 2 Pocket.initial { running with line := (lineIn l).line }
    (can .run).crimp[2].watch = none
      ∧ (dischargeCrossing 2 (can .run)).trail.entries = [realEntry 0 0]
      ∧ ((dischargeCrossing 2 (unknown .drain)).trail.entries.map (·.kind)) = [.purge 2 (reasonBit .purge)]
      ∧ (dischargeCrossing 2 running).trail.entries = []
      ∧ (dischargeCrossing 2 (can .halt)).pockets[2].content = .unknown
      ∧ (dischargeCrossing 2 (can .halt)).lots.current = some { lot311 with lost := 1, inFlight := 3 }
      ∧ (dischargeCrossing 2 (unknown .stopped)).pockets[2].content = .unknown := by decide +kernel

/-- A bell still closed at DISCHARGE: the head is retired, the can given up, and the line halts; with the table full the head
is OUT; a head already RETIRED changes its cause and its entry's; in STOPPED the line stays. -/
theorem test_hypotheses_DischargeHandsOnGivesUpOrFindsTheBellStuck_stuck :
    let entry (p : PocketNo) : Retirement := { pocket := p, cause := .threshold, lastCan := none }
    let s (h : Head) (l : List Retirement) : State :=
      { setHead 2 h (setCrimp 2 { CrimpHead.initial with watch := some (canId canA) } (canIn .released false running)) with
        retirements := l }
    let first := dischargeCrossing 2 (s Head.initial [])
    let full := dischargeCrossing 2 (s Head.initial (List.replicate 5 (entry 9)))
    let again := dischargeCrossing 2 (s { Head.initial with state := .retired, cause := some .threshold } [entry 9, entry 2])
    let stopped := dischargeCrossing 2 { s Head.initial [] with line := stocked.line }
    (first.heads[2].state = .retired ∧ first.heads[2].tallies.stuck = 1 ∧ first.pockets[2] = clearedPocket .unknown
        ∧ first.line.state = .halt ∧ first.trail = running.trail ∧ first.crimp[2].watch = none
        ∧ (first.line.haltRecord.map (·.first)) = some .headStuck
        ∧ first.lots.current = some { lot311 with lost := 1, inFlight := 3 }
        ∧ first.retirements = [{ pocket := 2, cause := .stuck, lastCan := some (canId canA) }])
      ∧ (full.heads[2].state = .out ∧ full.heads[2].overflow = true ∧ full.retirements.length = 5)
      ∧ (again.heads[2].cause = some .stuck ∧ again.retirements = [entry 9, { entry 2 with cause := .stuck }])
      ∧ (stopped.line = stocked.line ∧ stopped.heads[2].state = .retired) := by decide +kernel

/-- Candidates at the limit 400 and beyond it, and an absent one with the table full. -/
theorem test_hypotheses_CalibrationCandidateIsMeasuredAndDecided :
    let entry : Retirement := { pocket := 9, cause := .cal, lastCan := none }
    let at_ (n : Nat) : State := { setHead 2 { Head.initial with state := .reseating } running with
      retirements := List.replicate n entry }
    running.heads[2].state ≠ .reseating
      ∧ ((decideCalibration 2 (some (-400)) (at_ 0)).heads[2].state = .probation
        ∧ (decideCalibration 2 (some (-400)) (at_ 0)).heads[2].zeroOffset = -400)
      ∧ ((at_ 4).config.retirementLimit = 4 ∧ (decideCalibration 2 (some 401) (at_ 4)).heads[2].state = .retired
        ∧ (decideCalibration 2 (some 401) (at_ 4)).line.state = .stopped)
      ∧ (decideCalibration 2 none (at_ 5)).heads[2].state = .out := by decide +kernel

/-- A calibration stroke at crimp measure with the jaw CLOSED and with it WAITING. -/
theorem test_hypotheses_CalibrationCandidateIsMeasuredAndDecided_measure :
    let s (c : JawCondition) : State := setHead 2 { Head.initial with state := .reseating }
      (setPocket 2 { Pocket.initial with content := .empty, step := .calPass, binding := some bindA }
        (stroking .calibration .timed c
          { running with inputs := { running.inputs with displacement := running.inputs.displacement.set 2 37 } }))
    let after (c : JawCondition) := crimpMeasureCrossing 2 bindA (s c)
    ((s .closed).pockets[2].step = .calPass ∧ (s .closed).pockets[2].halted = false
        ∧ (after .closed).heads[2].state = .probation ∧ (after .closed).heads[2].zeroOffset = 37
        ∧ (after .closed).crimp[2].stroke = none)
      ∧ (after .waiting).heads[2].state = .retired := by decide +kernel

/-! ### Trail and trace buffer -/

/-- W at 0; no entry past the weigher; the second entry at exactly W pitches behind one already weighed, and a late one. -/
theorem test_hypotheses_WeigherRecordGoesToTheOldestEligibleEntry :
    let a : TrailEntry := { realEntry 10 0 with weight := some { reading := some 2500, late := false } }
    let late : TrailEntry := { realEntry 11 0 with lane := some .hold }
    let s (e : TrailEntry) (pitch : Word32) := trailWith [a, e, realEntry 12 0] pitch running
    let noWeigher : State := { running with config := { running.config with weigherDistance := 0 } }
    let take (s : State) := (afterCommand (.weigherRecord (some 2399)) s).trail.entries
    noWeigher.config.weigherDistance = 0
      ∧ ((s (realEntry 11 0) 13).config.weigherDistance = 3
        ∧ take (s (realEntry 11 0) 13) = [a, realEntry 11 0, realEntry 12 0].map (markEntry .trackLost))
      ∧ take (s (realEntry 11 0) 14)
        = [a, { realEntry 11 (reasonBit .weightLow) with weight := some { reading := some 2399, late := false } },
            realEntry 12 0]
      ∧ take (s late 14) = [a, { late with weight := some { reading := some 2399, late := true } }, realEntry 12 0] := by
  decide +kernel

/-- The band 2400 to 2600 at its bounds and one beyond each, NO_READING, and a recipe without a band. -/
theorem test_hypotheses_WeigherRecordGoesToTheOldestEligibleEntry_band :
    let noBand : State := { running with recipes := { running.recipes with
      slots := running.recipes.slots.set 0 { generation := 1, content := some (recipeOf { recipeA with bandPresence := 0 }) } } }
    let judged (reading : Option Word16) (s : State) := (matchWeight reading s (realEntry 10 0)).kind
    let can (rs : Reasons) : EntryKind := .real { canA with reasons := rs }
    (realEntry 10 0).lane = none ∧ (recipeIn 0 running).bind (·.weightBand) = some (2400, 2600)
      ∧ judged (some 2399) running = can (reasonBit .weightLow) ∧ judged (some 2400) running = can 0
      ∧ judged (some 2600) running = can 0 ∧ judged (some 2601) running = can (reasonBit .weightHigh)
      ∧ judged none running = can (reasonBit .weightMissing)
      ∧ (recipeIn 0 noBand).bind (·.weightBand) = none ∧ judged none noBand = can 0 := by decide +kernel

/-- The entry of pitch 94 is due at crossing 100 with D = 6, seen and not seen. -/
theorem test_hypotheses_TrailCrossingArrivesAndCommandsTheGate :
    let e : TrailEntry := { realEntry 94 0 with lane := some .accept }
    let s (seen : Bool) : State :=
      let s := trailWith [e, realEntry 95 0] 100 running
      { s with trail := { s.trail with eyeLatch := seen } }
    e.dischargePitch + BitVec.ofNat 32 (s true).config.gateDistance = 100
      ∧ (realEntry 95 0).dischargePitch + BitVec.ofNat 32 (s true).config.gateDistance ≠ 100
      ∧ ((arrivals 100 (s true)).trace.records.map (·.disposition)) = [.accept]
      ∧ (arrivals 100 (s true)).lots.current = some { lot311 with accepted := 2, inFlight := 3 }
      ∧ ((arrivals 100 (s false)).trace.records.map (·.disposition)) = [.missing]
      ∧ (arrivals 100 (s false)).lots.current = some { lot311 with missing := 1, inFlight := 3 } := by decide +kernel

/-- A closed watch; a watch with no entry; a watch with an entry. -/
theorem test_hypotheses_GateInputsAndSettleTimerAct :
    let s (w : Option GateWatch) : State :=
      let s := trailWith [realEntry 94 0, realEntry 95 0] 99 running
      { s with trail := { s.trail with watch := w } }
    let after (w : Option GateWatch) := afterCommand .gateSettleTimerExpiry (s w)
    (s none).trail.watch = none
      ∧ ((after (some { entry := none, settle := 60 })).line.state = .halt
        ∧ (after (some { entry := none, settle := 60 })).trail.watch = none)
      ∧ (after (some { entry := some 94, settle := 60 })).trail.entries
        = [realEntry 94 (reasonBit .gateUnconfirmed), realEntry 95 0]
      ∧ (afterCommand (.gatePositionSensor (some .hold)) (s (some { entry := none, settle := 60 }))).trail.watch = none
      ∧ (afterCommand (.gateEyeInput true) running).trail.eyeLatch = true := by decide +kernel

/-- An UNKNOWN pocket's entry arrives seen and unseen; a latch set and clear with no entry due; the gate for a can whose weight is
awaited, for an UNKNOWN pocket's entry with the sensor already at HOLD, and for no entry. -/
theorem test_hypotheses_TrailCrossingArrivesAndCommandsTheGate_gate :
    let purge : TrailEntry := { realEntry 94 0 with kind := .purge 3 (reasonBit .purge) }
    let s (l : List TrailEntry) (seen : Bool) : State :=
      let s := trailWith l 100 running
      { s with trail := { s.trail with eyeLatch := seen } }
    let atHold (s : State) : State := { s with inputs := { s.inputs with gateSensor := some .hold } }
    let gate (p : Word32) (s : State) := (commandNext p s).trail
    ((arrivals 100 (s [purge] true)).trace.records.map (·.disposition)) = [.hold]
      ∧ (arrivals 100 (s [purge] false)).trace.records = [] ∧ (arrivals 100 (s [purge] false)).trail.entries = []
      ∧ ((arrivals 100 (s [realEntry 95 0] true)).link.reports = [.strayCan 100]
        ∧ (arrivals 100 (s [realEntry 95 0] true)).trail.eyeLatch = false)
      ∧ arrivals 100 (s [realEntry 95 0] false) = s [realEntry 95 0] false
      ∧ ((gate 99 (s [realEntry 94 0] false)).gateCommand = .hold
        ∧ (gate 99 (s [realEntry 94 0] false)).entries = [{ realEntry 94 (reasonBit .weightMissing) with lane := some .hold }]
        ∧ (gate 99 (s [realEntry 94 0] false)).watch = some { entry := some 94, settle := 60 })
      ∧ ((gate 99 (atHold (s [purge] false))).entries = [{ purge with lane := some .hold }]
        ∧ (gate 99 (atHold (s [purge] false))).watch = none)
      ∧ ((gate 98 (s [realEntry 94 0] false)).gateCommand = .hold
        ∧ (gate 98 (s [realEntry 94 0] false)).watch = some { entry := none, settle := 60 }) := by decide +kernel

/-- The gate is commanded for the entry due one pitch later. -/
theorem test_gate_command :
    let t := trailCrossing (trailWith [realEntry 94 (reasonBit .heightLow)] 99 running)
    t.trail.gateCommand = .scrap ∧ t.trail.watch = some { entry := some 94, settle := 60 }
      ∧ (t.trail.entries.map (·.lane)) = [some .scrap] := by decide +kernel

/-! ### Lots -/

/-- Lot 311 balances and is in flight; an arrival of the closing lot's last can commits the changeover. -/
theorem test_hypotheses_CountingEventsKeepTheLotIdentity :
    let closing : LotRecord := { lot311 with lot := 310, accepted := 4, inFlight := 1 }
    let s : State := { running with lots := { running.lots with
      closing := some closing,
      changeover := .switching { target := 0, expected := 1, newLot := 311, boundary := .next } } }
    lot311.admitted = lot311.accepted + lot311.scrapped + lot311.held + lot311.missing + lot311.lost + lot311.inFlight
      ∧ closing.admitted
        = closing.accepted + closing.scrapped + closing.held + closing.missing + closing.lost + closing.inFlight
      ∧ openLot 310 s = some closing ∧ closing.inFlight ≠ 0 ∧ closing.admitted < 4294967295
      ∧ (countArrival 310 .accept s).lots = { s.lots with
          closing := none, lastClosed := some { closing with accepted := 5, inFlight := 0 }, changeover := .none,
          lastOutcome := some .committed } := by decide +kernel

/-- Codes 11 and 12 on the two sides of the classes, and the empty set. -/
theorem test_hypotheses_ReasonsDecideTheLane :
    hasReason (addReason (reasonBit .purge) .weightHigh) .weightHigh = true ∧ reasonCode .weightHigh = 11
      ∧ laneOf (addReason (reasonBit .purge) .weightHigh) = .scrap ∧ laneOf (reasonBit .doseUnmeasured) = .hold
      ∧ reasonCode .doseUnmeasured = 12 ∧ laneOf 0 = .accept ∧ reasonCode .purge = 21 := by decide +kernel

/-! ### Line control -/

theorem test_hypotheses_InterlockInputSetsTheLatch :
    let latched : State := { running with line := { running.line with latch := some .leak, state := .halt } }
    (running.inputs.guardDoor = false ∧ running.line.latch = none
        ∧ (afterCommand (.interlockInputActive .guard true) running).line.latch = some .guard
        ∧ (afterCommand (.interlockInputActive .guard true) running).line.state = .halt)
      ∧ ((afterCommand (.interlockInputActive .guard true) latched).line.latch = some .leak)
      ∧ (afterCommand (.interlockInputActive .leak false) running).line = (finish running).line := by decide +kernel

def armed (plan : ChangePlan) (n : Nat) (s : State) : State :=
  { s with lots := { s.lots with changeover := .armed plan n (Vector.replicate 24 false) } }

def planB : ChangePlan := { target := 1, expected := 1, newLot := 312, boundary := .after 3 }

/-- STARTING; quiet stage 0 and 1 in RUN with an ARMED changeover, in STARTING and in HALT. -/
theorem test_hypotheses_SyncAndQuietTimersExpire :
    let starting : State := { lineIn .starting with line := { (lineIn .starting).line with syncTimer := some 10000 } }
    let quiet (stage : Nat) (l : LineState) : State :=
      { running with line := { (lineIn l).line with stage := stage, quietTimer := some 2000 } }
    let after (s : State) := afterCommand .quietTimerExpiry s
    (starting.line.syncTimer ≠ none ∧ (afterCommand .syncTimerExpiry starting).line.state = .halt)
      ∧ (running.line.syncTimer = none ∧ running.line.quietTimer = none)
      ∧ ((after (quiet 0 .run)).line.stage = 1 ∧ (after (quiet 0 .run)).line.quietTimer = some 2000)
      ∧ ((after (armed planB 3 (quiet 1 .run))).line.stage = 2 ∧ (quiet 1 .run).line.safe = false
        ∧ (after (armed planB 3 (quiet 1 .run))).lots.lastOutcome = some (.failed .safeProfile)
        ∧ (after (quiet 1 .run)).position.speedCeiling = 250000)
      ∧ (after (canIn .seated false (quiet 1 .run))).line.state = .drain
      ∧ (after (quiet 1 .starting)).line.state = .stopped ∧ (after (quiet 1 .halt)).line.state = .halt := by
  decide +kernel

theorem test_hypotheses_DrainCauseActsByTheLineState :
    ((canIn .seated false running).line.state = .run ∧ ¬ (pocketsEmpty (canIn .seated false running) = true)
        ∧ (takeDrainCause .noChannel (canIn .seated false running)).line.drainCause = some .noChannel)
      ∧ (running.line.state = .run ∧ pocketsEmpty running = true ∧ running.trail.entries = []
        ∧ (takeDrainCause .noChannel running).line.state = .stopped)
      ∧ (takeDrainCause .noChannel (lineIn .starting)).line.state = .stopped
      ∧ (lineIn .drain).line.state = .drain := by decide +kernel

/-! ### Frames -/

def pingFrame : Frame := { kind := 0x01, tag := 0x2A, body := [] }

def lineInFrame (bytes : List Byte) : State :=
  setPort .line { PortState.initial with receiver := .inFrame bytes, gapTimer := some 2 } State.reset

/-- HUNTING with C3h and another byte; LEN 1, 2, 242 and 243; the last byte right and wrong; a gap timer running or not. -/
theorem test_hypotheses_ReceiverAssemblesFramesByteByByte :
    let rx (b : Byte) (s : State) := (afterCommand (.byteReceived .line ⟨b, []⟩) s).link.linePort.receiver
    deaf .line State.reset = false ∧ State.reset.link.linePort.receiver = .hunting
      ∧ rx 0x55 State.reset = .hunting ∧ rx 0xC3 State.reset = .inFrame [0xC3]
      ∧ rx 1 (lineInFrame [0xC3]) = .hunting ∧ rx 243 (lineInFrame [0xC3]) = .hunting
      ∧ rx 2 (lineInFrame [0xC3]) = .inFrame [0xC3, 2] ∧ rx 242 (lineInFrame [0xC3]) = .inFrame [0xC3, 242]
      ∧ (frameBytes pingFrame = (frameBytes pingFrame).dropLast ++ [0x08]
        ∧ (replyOf .line (afterCommand (.byteReceived .line ⟨0x08, []⟩) (lineInFrame (frameBytes pingFrame).dropLast))
            |>.map (·.kind)) = some 0x81)
      ∧ (rx 0x09 (lineInFrame (frameBytes pingFrame).dropLast) = .hunting
        ∧ replyOf .line (afterCommand (.byteReceived .line ⟨0x09, []⟩) (lineInFrame (frameBytes pingFrame).dropLast)) = none)
      ∧ ((lineInFrame [0xC3]).link.linePort.gapTimer ≠ none ∧ State.reset.link.linePort.gapTimer = none
        ∧ (afterCommand (.gapTimerExpiry .line) (lineInFrame [0xC3])).link.linePort.receiver = .hunting) := by
  decide +kernel

theorem test_hypotheses_BytesOfAFrameAreItsArrival :
    deaf .service State.reset = false ∧ (portOf .service State.reset).receiver = .hunting ∧ pingFrame.body.length ≤ 240
      ∧ (frameBytes pingFrame).foldl (fun t b => receiveByte .service b t) State.reset
        = receiveFrame .service pingFrame State.reset := by decide +kernel

/-- The line port with requests in its queue. -/
def queued (n : Nat) (refusal : Option BusyRefusal) (t : Option TxFrame) : State :=
  setPort .line { PortState.initial with queue := List.replicate n pingFrame, refusal := refusal, transmitter := t } State.reset

def busyWaiting (ahead : Nat) : BusyRefusal :=
  { frame := { kind := 0xFE, tag := 9, body := [0x02, 0x06, 0] }, ahead := ahead }

/-- One request and three ahead; four with an empty and a taken slot; and on a free port the kinds 00h, 1Ch, a wrong length,
a kind that the service port does not carry, and PING. -/
theorem test_hypotheses_FrameReceivedIsPlacedOrTaken :
    let after (f : Frame) (s : State) := (afterCommand (.frameReceived .line ⟨f, []⟩) s).link.linePort
    let reason (port : Port) (f : Frame) :=
      (replyOf port (afterCommand (.frameReceived port ⟨f, []⟩) State.reset)).map fun r => (r.kind, r.body)
    let f : Frame := { pingFrame with kind := 0x02 }
    ((after f (queued 1 none none)).queue = [pingFrame, f] ∧ (after f (queued 3 none none)).queue.length = 4)
      ∧ ((after { f with tag := 9 } (queued 4 none none)).refusal = some (busyWaiting 4))
      ∧ ((after f (queued 4 (some (busyWaiting 4)) none)).queue.length = 4)
      ∧ (freePort .line State.reset = true ∧ freePort .service State.reset = true
        ∧ bodyLength 0 = none ∧ bodyLength 0x1C = none
        ∧ reason .line { pingFrame with kind := 0x1C } = some (0xFE, [0x1C, 1, 0]))
      ∧ (bodyLength 0x01 = some 0 ∧ reason .line { pingFrame with body := [0] } = some (0xFE, [0x01, 2, 0]))
      ∧ (lineOnly 0x05 = true ∧ bodyLength 0x05 = some 0
        ∧ reason .service { pingFrame with kind := 0x05 } = some (0xFE, [0x05, 5, 0]))
      ∧ (lineOnly 0x01 = false ∧ reason .service pingFrame = some (0x81, [2, 1, 0, 0, 0, 15]))
      ∧ (replyOf .line (afterCommand (.unknownKind .line 0 7 []) State.reset)).map (·.body) = some [0, 1, 0] := by
  decide +kernel

/-- No transmission; a report; a reply with nothing behind it, with a BUSY refusal due, and with a request behind it; a
BUSY refusal with a request behind it. -/
theorem test_hypotheses_TransmitEndFreesThePlaceOfTheRequest :
    let tx (k : TxKind) : Option TxFrame := some { what := k, frame := pingFrame }
    let after (s : State) := (afterCommand (.transmitEnd ⟨.line, []⟩) s).link.linePort
    (queued 0 none none).link.linePort.transmitter = none
      ∧ (after (queued 1 none (tx .report))).transmitter = none
      ∧ (after (queued 1 none (tx .reply))).queue = []
      ∧ ((queued 1 (some (busyWaiting 1)) (tx .reply)).link.linePort.queue.tail = []
        ∧ ((after (queued 1 (some (busyWaiting 1)) (tx .reply))).transmitter.map (·.what)) = some .busy)
      ∧ (((after (queued 4 (some (busyWaiting 4)) (tx .reply))).refusal.map (·.ahead)) = some 3
        ∧ ((after (queued 4 (some (busyWaiting 4)) (tx .reply))).transmitter.map (·.what)) = some .reply)
      ∧ ((after (queued 1 (some (busyWaiting 0)) (tx .busy))).refusal = none
        ∧ ((after (queued 1 (some (busyWaiting 0)) (tx .busy))).transmitter.map (·.what)) = some .reply) := by
  decide +kernel

/-! ### Requests on a free port -/

/-- Kind and body of the reply to a command. -/
def answerTo (port : Port) (i : Instr) (s : State) : Option (Byte × List Byte) :=
  (replyOf port (afterCommand i s)).map fun f => (f.kind, f.body)

theorem test_hypotheses_LinkRequestsAreAnswered :
    freePort .line State.reset = true ∧ freePort .service State.reset = true
      ∧ answerTo .service (.ping .service 1) State.reset = some (0x81, [2, 1, 0, 0, 0, 15])
      ∧ answerTo .line (.setReportMask .line 1 0xFA) State.reset = some (0x9B, [10])
      ∧ (afterCommand (.setReportMask .line 1 0xFA) State.reset).link.maskTrace = false := by decide +kernel

/-- A number at its top and one above it, and each reading request once. -/
theorem test_hypotheses_ReadingRequestsShowAndChangeNothing :
    let size (i : Instr) := (answerTo .line i stocked).map fun a => (a.1, a.2.length)
    freePort .line stocked = true ∧ size (.getStatus .line 0) = some (0x82, 115)
      ∧ size (.getHaltRecord .line 0) = some (0x89, 15) ∧ size (.getChangeover .line 0) = some (0x91, 27)
      ∧ size (.getLot .line 0) = some (0x92, 103) ∧ size (.getHead .line 0 ⟨23, []⟩) = some (0x93, 61)
      ∧ answerTo .line (.getHead .line 0 ⟨24, []⟩) stocked = some (0xFE, [0x13, 3, 1])
      ∧ answerTo .line (.readRetirements .line 0) stocked = some (0x96, [4, 0, 0])
      ∧ size (.getChannel .line 0 3) = some (0x98, 44)
      ∧ answerTo .line (.getChannel .line 0 4) stocked = some (0xFE, [0x18, 3, 1])
      ∧ answerTo .line (.readRecipe .line 0 1) stocked = some (0x8E, [1, 2, 1, 0, 0] ++ recipeBytes recipeA)
      ∧ answerTo .line (.readRecipe .line 0 7) stocked = some (0x8E, [7, 1, 0, 0, 0])
      ∧ answerTo .line (.readRecipe .line 0 8) stocked = some (0xFE, [0x0E, 3, 1]) := by decide +kernel

/-- A cup that comes at standstill shows in GET_HEAD, when the request is taken at once and when it waited in the queue. -/
theorem test_cup_present_shows_in_get_head :
    let cup (r : Option (Byte × List Byte)) := r.bind fun a => (a.2[49]?).map (·.getLsbD 2)
    let waiting : State := setPort .line { stocked.link.linePort with
      queue := [{ kind := 1, tag := 0, body := [] }, { kind := 0x13, tag := 1, body := [5] }],
      transmitter := some { what := .reply, frame := { kind := 0x81, tag := 0, body := [] } } } stocked
    cup (answerTo .line (.getHead .line 0 ⟨5, []⟩) stocked) = some false
      ∧ cup (answerTo .line (.getHead .line 0 ⟨5, [.cupPresent 5 true]⟩) stocked) = some true
      ∧ cup (answerTo .line (.transmitEnd ⟨.line, [.cupPresent 5 true]⟩) waiting) = some true
      ∧ cup (answerTo .line (.frameReceived .line ⟨{ kind := 0x13, tag := 0, body := [5] }, [.cupPresent 5 true]⟩) stocked)
        = some true := by decide +kernel

theorem test_hypotheses_LineOnlyRequestsAreRefusedOnTheServicePort :
    freePort .service State.reset = true
      ∧ answerTo .service (.startLine .service 0 1 0) State.reset = some (0xFE, [0x03, 5, 0])
      ∧ answerTo .service (.takeTrace .service 0 1) State.reset = some (0xFE, [0x1A, 5, 0]) := by decide +kernel

/-- A new lot and the current one, UNSYNCED and SYNCED; and each refusal in its order. -/
theorem test_hypotheses_StartLineStartsTheLineOrIsRefused :
    let synced : State := { stocked with position := { stocked.position with sync := .synced } }
    let idle : State := { synced with lots := { synced.lots with current := some { lot311 with admitted := 1, inFlight := 0 } } }
    let start (lot : Word32) (slot : Byte) (s : State) := afterCommand (.startLine .line 0 lot slot) s
    let refused (lot : Word32) (slot : Byte) (s : State) := answerTo .line (.startLine .line 0 lot slot) s
    let entry : Retirement := { pocket := 9, cause := .cal, lastCan := none }
    (freePort .line stocked = true ∧ stocked.line.state = .stopped ∧ stocked.line.wf = true
        ∧ stocked.line.latch = none ∧ stocked.retirements.length ≤ stocked.config.retirementLimit
        ∧ channelsInService stocked ≠ 0 ∧ recipeIn 0 stocked ≠ none ∧ stocked.lots.current = none
        ∧ stocked.lots.lastClosed = none ∧ stocked.lots.changeover = .none ∧ stocked.position.sync ≠ .synced
        ∧ (start 311 0 stocked).line.state = .starting ∧ (start 311 0 stocked).line.syncTimer = some 10000
        ∧ refused 311 0 stocked = some (0x83, [2, 0x37, 1, 0, 0, 0]))
      ∧ (synced.inputs.driveReady = true ∧ (start 311 0 synced).line.state = .run
        ∧ (start 311 0 synced).position.stallTimer = some 120)
      ∧ ((start 311 0 idle).lots.current = idle.lots.current
        ∧ ((start 400 1 idle).lots.current.map (·.slot)) = some 1
        ∧ (start 400 1 idle).lots.lastClosed = idle.lots.current)
      ∧ refused 0 0 stocked = some (0xFE, [3, 3, 1]) ∧ refused 1 8 stocked = some (0xFE, [3, 3, 2])
      ∧ refused 1 7 running = some (0xFE, [3, 4, 0]) ∧ refused 1 0 State.reset = some (0xFE, [3, 0x0C, 0])
      ∧ refused 1 0 { stocked with retirements := List.replicate 5 entry } = some (0xFE, [3, 0x0D, 0])
      ∧ refused 1 0 { stocked with gas := { stocked.gas with
          channels := Vector.replicate 4 { Channel.initial with state := .off } } } = some (0xFE, [3, 0x0E, 0]) := by
  decide +kernel

/-- The refusals of the lot register in their order, each with a later check failing too where one can. -/
theorem test_hypotheses_StartLineStartsTheLineOrIsRefused_lots :
    let refused (lot : Word32) (slot : Byte) (s : State) := answerTo .line (.startLine .line 0 lot slot) s
    let inLot (l : LotRecord) : State := { stocked with lots := { stocked.lots with current := some l, lastClosed := some lot311 } }
    let plan : ChangePlan := { target := 1, expected := 1, newLot := 312, boundary := .next }
    let switching : State := { stocked with lots := { stocked.lots with changeover := .switching plan } }
    channelsInService stocked ≠ 0 ∧ recipeIn 7 stocked = none
      ∧ refused 311 7 (inLot lot311) = some (0xFE, [3, 7, 0])
      ∧ refused 311 1 (inLot lot311) = some (0xFE, [3, 3, 2])
      ∧ refused 311 0 (inLot { lot311 with lot := 9 }) = some (0xFE, [3, 0x0B, 0])
      ∧ refused 311 0 (inLot { lot311 with lot := 9, inFlight := 0, offers := 1 }) = some (0xFE, [3, 0x0B, 0])
      ∧ refused 311 0 switching = some (0xFE, [3, 0x0B, 0])
      ∧ refused 311 0 (inLot { lot311 with lot := 9, inFlight := 0 }) = some (0xFE, [3, 3, 1]) := by decide +kernel

theorem test_hypotheses_StopLineActsByModeAndLineState :
    let stop (port : Port) (mode : Byte) (s : State) := answerTo port (.stopLine port 0 mode) s
    freePort .line running = true ∧ freePort .service running = true ∧ running.line.state = .run
      ∧ stop .line 2 stocked = some (0x84, [1]) ∧ stop .line 2 running = some (0x84, [5])
      ∧ stop .service 2 running = some (0x84, [5]) ∧ stop .line 1 (lineIn .drain) = some (0x84, [4])
      ∧ stop .line 1 (canIn .seated false running) = some (0x84, [4]) ∧ stop .line 1 (lineIn .starting) = some (0x84, [1])
      ∧ stop .service 1 running = some (0xFE, [4, 5, 0]) ∧ stop .line 0 running = some (0xFE, [4, 3, 1])
      ∧ stop .service 3 running = some (0xFE, [4, 3, 1]) := by decide +kernel

theorem test_hypotheses_LineControlRequestsAct :
    let synced : State := { stocked with position := { stocked.position with sync := .synced } }
    let guard : State := { State.reset with inputs := { State.reset.inputs with guardDoor := true } }
    let safe : State := { running with line := { running.line with safe := true } }
    let probation : State := setHead 2 { Head.initial with state := .probation, remainder := 2 } stocked
    freePort .line running = true ∧ freePort .service running = true
      ∧ answerTo .service (.resync .service 0) running = some (0xFE, [5, 5, 0])
      ∧ answerTo .service (.clearInterlock .service 0) running = some (0xFE, [6, 5, 0])
      ∧ answerTo .line (.resync .line 0) running = some (0xFE, [5, 4, 0])
      ∧ answerTo .line (.resync .line 0) stocked = some (0x85, [1])
      ∧ (afterCommand (.resync .line 0) (canIn .seated false synced)).pockets[2].content = .unknown
      ∧ answerTo .line (.clearInterlock .line 0) guard = some (0xFE, [6, 0x11, 0])
      ∧ ((afterCommand (.clearInterlock .line 0) State.reset).line.latch = none
        ∧ answerTo .line (.clearInterlock .line 0) State.reset = some (0x86, [0, 0]))
      ∧ ((afterCommand (.clearSafe .line 0) safe).position.speedCeiling = 150000
        ∧ answerTo .line (.clearSafe .line 0) safe = some (0x87, [0, 0]))
      ∧ answerTo .line (.restart .line 0) running = some (0xFE, [0x0A, 4, 0])
      ∧ answerTo .line (.restart .line 0) State.reset = some (0x8A, [1, 1, 0])
      ∧ ((afterCommand (.restart .line 0) probation).heads[2].state = .reseatPending
        ∧ (afterCommand (.restart .line 0) probation).recipes.slots = stocked.recipes.slots) := by decide +kernel

/-- RESTART with the service port in a frame, one request answered and one waiting, and two heads in PROBATION. -/
theorem test_hypotheses_LineControlRequestsAct_link :
    let ping : Frame := { kind := 1, tag := 7, body := [] }
    let service : PortState := { stocked.link.servicePort with
      receiver := .inFrame [4], gapTimer := some 10, queue := [ping, ping],
      transmitter := some { what := .reply, frame := ping } }
    let prob : Head := { Head.initial with state := .probation, remainder := 2, zeroOffset := 31 }
    let s : State := setHead 5 prob (setHead 2 prob { stocked with link := { stocked.link with
      servicePort := service, dropped := 3, maskLot := false } })
    let report (p : PocketNo) : Report := .headState p .probation .reseatPending .restart none 31 0 0 0
    let l := (ownRestart s).1.link
    freePort .line s = true ∧ freePort .service s = false ∧ s.line.state = .stopped
      ∧ l.servicePort = { service with receiver := .hunting, gapTimer := none, queue := [ping] }
      ∧ l.reports = [report 2, report 5] ∧ l.dropped = 0 ∧ l.maskLot = true
      ∧ l.linePort.transmitter = s.link.linePort.transmitter := by decide +kernel

def configA : ConfigWire := { configWireOf MachineConfig.default with gateDistance := 12, weigherDistance := 10 }

/-- Accepted with the largest D and W; W of D − 1; L below the retirement count; D changed with an entry in the trail. -/
theorem test_hypotheses_SetConfigReplacesTheConfigurationWhole :
    let set (c : ConfigWire) (s : State) := answerTo .line (.setConfig .line 0 c) s
    let entry : Retirement := { pocket := 9, cause := .cal, lastCan := none }
    (freePort .line stocked = true ∧ configBadField (configOf configA) = none ∧ stocked.trail.entries = []
        ∧ set configA stocked = some (0x88, configBytes configA)
        ∧ (afterCommand (.setConfig .line 0 configA) stocked).config = configOf configA
        ∧ (afterCommand (.setConfig .line 0 configA) stocked).line.quietTimer = some 2000)
      ∧ set configA running = some (0xFE, [8, 4, 0])
      ∧ (configBadField (configOf { configA with weigherDistance := 11 }) = some 2
        ∧ set { configA with weigherDistance := 11 } stocked = some (0xFE, [8, 3, 2]))
      ∧ set { configA with retirementLimit := 1 } { stocked with retirements := [entry, entry] } = some (0xFE, [8, 3, 3])
      ∧ set configA (trailWith [realEntry 1 0] 1 stocked) = some (0xFE, [8, 3, 1])
      ∧ set { configA with gateDistance := 6, weigherDistance := 4 } (trailWith [realEntry 1 0] 1 stocked)
        = some (0xFE, [8, 3, 2])
      ∧ set { configA with retirementLimit := 1 } { trailWith [realEntry 1 0] 1 stocked with
          retirements := [entry, entry] } = some (0xFE, [8, 3, 3]) := by decide +kernel

/-- Three IDLE channels, of which channel 3 meets the new count, channel 1 the new time exactly and channel 0 neither. -/
theorem test_hypotheses_SetConfigReplacesTheConfigurationWhole_tare :
    let idle (charges time : Nat) : Channel :=
      { Channel.initial with state := .idle, chargesSinceTare := charges, timeSinceTare := time }
    let s : State := { stocked with gas := { stocked.gas with
      tareQueue := [], channels := #v[idle 31 4999999, idle 0 5000000, { Channel.initial with state := .off }, idle 32 0] } }
    let t := afterCommand (.setConfig .line 0 { configA with tareIntervalCount := 32, tareIntervalTime := 5 }) s
    freePort .line s = true ∧ t.gas.tareQueue = [1, 3] ∧ t.gas.channels[0] = s.gas.channels[0]
      ∧ (t.gas.channels[1].state = .tare ∧ t.gas.channels[3].state = .tareWait ∧ t.gas.channels[3].tareDue = true)
      ∧ t.gas.channels[2] = s.gas.channels[2] := by decide +kernel

/-- 7.2.1: a write by reservation clears both, and the other port has lost its own. -/
theorem test_hypotheses_RecipeRequestsActOnOneSlot :
    let r : Reservation := { slot := 1, generation := 1 }
    let both : State := { stocked with recipes := { stocked.recipes with
      lineReservation := some r, serviceReservation := some r } }
    let low : RecipeWire := { recipeA with doseTolerance := 40 }
    let done := afterCommand (.writeRecipeReserved .service 0 1 recipeA) both
    (freePort .line stocked = true ∧ slotInUse 1 stocked = false ∧ recipeBadField recipeA = none
        ∧ answerTo .line (.writeRecipe .line 0 1 recipeA) both = some (0x8B, [1, 2, 0]))
      ∧ (slotInUse 0 running = true ∧ answerTo .line (.writeRecipe .line 0 0 recipeA) running = some (0xFE, [0x0B, 8, 0]))
      ∧ (recipeBadField low = some 5 ∧ answerTo .line (.writeRecipe .line 0 1 low) stocked = some (0xFE, [0x0B, 3, 5]))
      ∧ (reservationOf .service both = some { slot := 1, generation := generationOf 1 both }
        ∧ done.recipes.lineReservation = none ∧ done.recipes.serviceReservation = none ∧ generationOf 1 done = 2)
      ∧ (reservationOf .line done ≠ some { slot := 1, generation := generationOf 1 done } ∧ freePort .line done = true
        ∧ answerTo .line (.writeRecipeReserved .line 0 1 recipeA) done = some (0xFE, [0x0D, 9, 0]))
      ∧ answerTo .line (.reserveRecipe .line 0 7) stocked = some (0x8C, [7, 1, 0, 0, 0]) := by decide +kernel

/-- A changeover to slot 1 AFTER 3 and NEXT; aborted; too late; none; the offers before the boundary and at it. -/
theorem test_hypotheses_ChangeoverArmsMeetsItsBoundaryAndAborts :
    let change (b : Byte) (n : Word16) := answerTo .line (.changeover .line 0 1 1 312 b n) running
    let switching : State := { running with lots := { running.lots with changeover := .switching planB } }
    let empty : State := { running with lots := { running.lots with current := some { lot311 with inFlight := 0 } } }
    let next (s : State) := (offerLot 4 (armed planB 0 s)).lots
    (freePort .line running = true ∧ running.lots.changeover = .none ∧ running.line.safe = false
        ∧ recipeIn 1 running ≠ none ∧ generationOf 1 running = 1 ∧ activeSlot running ≠ some 1
        ∧ running.lots.lastClosed = none
        ∧ change 2 65535 = some (0x8F, [2, 1, 1, 0, 0xFF, 0xFF]) ∧ change 1 9 = some (0x8F, [2, 1, 1, 0, 0, 0]))
      ∧ answerTo .line (.abortChangeover .line 0) (armed planB 3 running) = some (0x90, [1, 2, 1])
      ∧ answerTo .line (.abortChangeover .line 0) switching = some (0xFE, [0x10, 0x10, 0])
      ∧ answerTo .line (.abortChangeover .line 0) running = some (0xFE, [0x10, 4, 0])
      ∧ ((offerLot 4 (armed planB 1 running)).lots.changeover = .armed planB 0 ((Vector.replicate 24 false).set 4 true))
      ∧ ((next running).changeover = .switching planB ∧ (next running).closing = some lot311
        ∧ ((next running).current.map (·.offers)) = some 1)
      ∧ ((next empty).changeover = .none ∧ (next empty).lastClosed = some { lot311 with inFlight := 0 }) := by
  decide +kernel

/-- A retired head, an OUT head and one in service; both ports. -/
theorem test_hypotheses_HeadRequestsMoveOneHead :
    let entry : Retirement := { pocket := 2, cause := .cal, lastCan := none }
    let retired : State := { setHead 2 { Head.initial with state := .retired, cause := some .cal } running with
      retirements := [entry] }
    let out : State := setHead 2 { Head.initial with state := .out } running
    (freePort .service running = true ∧ running.line.state ≠ .stopped
        ∧ answerTo .service (.restoreHead .service 0 2) retired = some (0xFE, [0x15, 4, 0])
        ∧ answerTo .service (.setHeadOut .service 0 2 1) running = some (0xFE, [0x14, 4, 0]))
      ∧ (freePort .service stocked = true ∧ stocked.line.state = .stopped
        ∧ answerTo .service (.setHeadOut .service 0 2 1) stocked = some (0x94, [2, 6, 0]))
      ∧ (answerTo .line (.restoreHead .line 0 2) retired = some (0x95, [2, 2, 0])
        ∧ answerTo .line (.restoreHead .line 0 2) running = some (0xFE, [0x15, 4, 0]))
      ∧ (answerTo .line (.setHeadOut .line 0 2 1) retired = some (0x94, [2, 6, 0])
        ∧ answerTo .line (.setHeadOut .line 0 2 2) out = some (0x94, [2, 2, 0])
        ∧ answerTo .line (.setHeadOut .line 0 2 2) running = some (0xFE, [0x14, 4, 0])) := by decide +kernel

/-- Head 23 alone, every head, and the numbers 24 and FEh. -/
theorem test_hypotheses_ClearTalliesSetsTalliesAlone :
    let tallied : Head := { Head.initial with tallies := { Head.initial.tallies with seat := 3, stuck := 1 } }
    let s : State := { running with heads := Vector.replicate 24 tallied }
    let after (head : Byte) := (afterCommand (.clearTallies .line 0 head) s).heads
    freePort .line s = true
      ∧ (answerTo .line (.clearTallies .line 0 23) s = some (0x97, [23])
        ∧ after 23 = (Vector.replicate 24 tallied).set 23 Head.initial)
      ∧ (answerTo .line (.clearTallies .line 0 0xFF) s = some (0x97, [0xFF]) ∧ after 0xFF = Vector.replicate 24 Head.initial)
      ∧ answerTo .line (.clearTallies .line 0 24) s = some (0xFE, [0x17, 3, 1])
      ∧ answerTo .line (.clearTallies .line 0 0xFE) s = some (0xFE, [0x17, 3, 1]) := by decide +kernel

theorem test_hypotheses_SetChannelActsByChannelState :
    let set (action : Byte) (s : State) := answerTo .line (.setChannel .line 0 1 action) s
    (freePort .service running = true ∧ running.gas.tareQueue.Nodup
        ∧ answerTo .service (.setChannel .service 0 1 9) running = some (0xFE, [0x19, 4, 0])
        ∧ answerTo .line (.setChannel .line 0 4 9) running = some (0xFE, [0x19, 3, 1])
        ∧ set 0 running = some (0xFE, [0x19, 3, 2]) ∧ set 3 running = some (0xFE, [0x19, 3, 2]))
      ∧ (set 2 (channelIn .idle) = some (0x99, [1, 3, 0]) ∧ set 1 (channelIn .idle) = some (0x99, [1, 7, 0])
        ∧ set 1 (channelIn .tareWait) = some (0x99, [1, 7, 0]))
      ∧ (set 1 (channelIn .tare) = some (0x99, [1, 2, 1]) ∧ set 2 (channelIn .charging) = some (0x99, [1, 4, 0])
        ∧ set 1 (channelIn .settling) = some (0x99, [1, 5, 1]))
      ∧ (set 1 (channelIn .fault) = some (0x99, [1, 6, 0]) ∧ set 2 (channelIn .fault) = some (0x99, [1, 2, 0])
        ∧ set 2 (channelIn .off) = some (0x99, [1, 2, 0])) := by decide +kernel

/-- n of 0 and 9; n of 2 of three records; and records that fill the body before n is reached. -/
theorem test_hypotheses_TakeTraceDeliversAndDeletesTheOldest :
    let full : Reasons := 0x1FFFFF
    let s (l : List TraceRecord) : State := { stocked with trace := { stocked.trace with records := l } }
    let three := s [traceOf 1 0, traceOf 2 0, traceOf 3 0]
    let large := s (List.replicate 8 (traceOf 1 full))
    let take (n : Byte) (s : State) := (afterCommand (.takeTrace .line 0 n) s).trace.records
    freePort .line three = true ∧ freePort .service three = true
      ∧ answerTo .service (.takeTrace .service 0 1) three = some (0xFE, [0x1A, 5, 0])
      ∧ answerTo .line (.takeTrace .line 0 0) three = some (0xFE, [0x1A, 3, 1])
      ∧ answerTo .line (.takeTrace .line 0 9) three = some (0xFE, [0x1A, 3, 1])
      ∧ take 2 three = [traceOf 3 0] ∧ take 8 three = [] ∧ (traceBytes (traceOf 1 full)).length = 48
      ∧ (take 8 large).length = 4 := by decide +kernel

/-! ### Encodings and invariants -/

theorem test_hypotheses_RecordsAndFramesReadBackFromTheirBytes :
    (List.replicate 240 (0xC3 : Byte)).length ≤ 240
      ∧ parseFrame (frameBytes { pingFrame with body := [0xC3, 0, 0xFF] }) = some { pingFrame with body := [0xC3, 0, 0xFF] }
      ∧ recipeAt (9 :: recipeBytes recipeA) 1 = recipeA ∧ configAt (configBytes configA) = configA := by decide +kernel

/-- The tightest phases of Table 1.4, with a weight band and without. -/
theorem test_hypotheses_ValidatedRecipesKeepTheirDistancesAndReadBack :
    let tight : PhasesOf Word16 :=
      { admitCheck := 30, cupCheck := 60, seat := 90, chargeOpen := 120, chargeLatest := 150, chargeClose := 180,
        crimpStart := 300, crimpMeasure := 330, release := 2400 }
    recipeBadField { recipeA with phases := tight } = none
      ∧ recipeBadField { recipeA with bandPresence := 0, weightLow := 9, weightHigh := 3 } = none
      ∧ recipeBadField { recipeA with phases := { tight with release := 2401 } } = some 15 := by decide +kernel

/-- The reset state and a running line meet each invariant, and their step is a next state. -/
theorem test_hypotheses_EveryStepKeepsThePositionCounterInRange :
    (State.reset.position.wf = true ∧ ∃ t, step State.reset = .next t)
      ∧ (running.position.wf = true ∧ ∃ t, step running = .next t) := ⟨⟨by decide +kernel, _, rfl⟩, by decide +kernel, _, rfl⟩

theorem test_hypotheses_EveryStepKeepsTheInterlock :
    (State.reset.line.wf = true ∧ ∃ t, step State.reset = .next t)
      ∧ (running.line.wf = true ∧ ∃ t, step running = .next t) := ⟨⟨by decide +kernel, _, rfl⟩, by decide +kernel, _, rfl⟩

theorem test_hypotheses_EveryStepKeepsTheReportAndTareQueues :
    (State.reset.link.wf = true ∧ State.reset.gas.tareQueue.Nodup ∧ ∃ t, step State.reset = .next t)
      ∧ ((fullOf (.strayCan 1)).link.wf = true ∧ ∃ t, step (fullOf (.strayCan 1)) = .next t) :=
  ⟨⟨by decide +kernel, by decide +kernel, _, rfl⟩, by decide +kernel, _, rfl⟩

/-- Power-on from a running line, with a command waiting. -/
theorem test_power_on :
    let s : State := { running with pending := [.indexPulse] }
    (afterCommand .powerOn s).pending = [.indexPulse] ∧ (afterCommand .powerOn s).line.state = .stopped
      ∧ (afterCommand .powerOn s).inputs = s.inputs := by decide +kernel

end Sys2Proof.Tests
end

section
/-! PROOF. R2: a reverse encoder step, below the greatest backlash depth and at it. -/

namespace Sys2Proof.Machine

/-- The position one count down at a backlash depth, with the motion noted: what every reverse step does first (R2, R16). -/
def countDown (depth : Nat) (s : State) : State :=
  { s with position := { s.position with
      standstill := false, standstillTimer := some 500, position := (s.position.position + 2879) % 2880,
      backlash := depth } }

/-- One count less of position and one count more of depth are the same high-water. -/
theorem countDown_highWater (s : State) :
    highWater (countDown (s.position.backlash + 1) s).position = highWater s.position := by
  dsimp only [highWater, countDown]
  omega

theorem reverseStep_of_backlash_lt {s : State} (shallow : s.position.backlash < 4) :
    reverseStep s = countDown (s.position.backlash + 1) s := if_pos shallow

theorem reverseStep_of_backlash_ge {s : State} (deep : 4 ≤ s.position.backlash) :
    reverseStep s = reversal (countDown 0 s) := if_neg (Nat.not_lt.mpr deep)

theorem reversal_of_unsynced_or_faulted {s : State} (h : s.position.sync = .unsynced ∨ s.position.sync = .faulted) :
    reversal s = s := by
  unfold reversal
  rcases h with h | h <;> rw [h]

theorem reversal_of_provisional {s : State} (h : s.position.sync = .provisional) : reversal s = dropProvisional s := by
  unfold reversal
  rw [h]

theorem reversal_of_synced {s : State} (h : s.position.sync = .synced) : reversal s = positionFault .reversal s := by
  unfold reversal
  rw [h]

/-- A REVERSE_ENCODER_STEP is a reverse step after its elapsed time, and always completes. -/
theorem exec_reverseEncoderStep (e : Nat) (s : State) :
    exec (.reverseEncoderStep e) s = .next (finish (reverseStep (elapse e s))) := rfl

/-- Settles O9: the depth decides between taking up backlash and a REVERSAL, and the sync state decides the REVERSAL. -/
theorem reverseStepTakesUpBacklashOrReverses : Obligations.ReverseStepTakesUpBacklashOrReverses := by
  unfold Obligations.ReverseStepTakesUpBacklashOrReverses
  constructor
  · intro e s u pc shallow
    refine ⟨?_, countDown_highWater u⟩
    rw [exec_reverseEncoderStep, reverseStep_of_backlash_lt shallow]
    rfl
  · intro e s u pc deep
    have reverses : exec (.reverseEncoderStep e) s = .next (finish (reversal { u with position := pc })) := by
      rw [exec_reverseEncoderStep, reverseStep_of_backlash_ge deep.ge]
      rfl
    have sync : ({ u with position := pc } : State).position.sync = u.position.sync := rfl
    refine ⟨fun idle => ?unsynced_or_faulted, fun provisional => ?provisional, fun synced => ?synced⟩
    case unsynced_or_faulted => rw [reverses, reversal_of_unsynced_or_faulted (sync ▸ idle)]
    case provisional => rw [reverses, reversal_of_provisional (sync.trans provisional), dropProvisional]
    case synced => rw [reverses, reversal_of_synced (sync.trans synced)]

end Sys2Proof.Machine
end

section
/-! SUPPORT. One entry of a table read back after a write, and what the changes of a head's state write: a move with its
report (R87), a retirement (R97, R98). -/

namespace Sys2Proof.Machine

variable {s : State} {p : PocketNo}

theorem saturatingSucc_eq_min (top n : Nat) : saturatingSucc top n = min top (n + 1) := by
  unfold saturatingSucc
  split <;> omega

/-! ### One entry of a table read back -/

theorem getElem_setPocket_self (p : PocketNo) (v : Pocket) (s : State) : (setPocket p v s).pockets[p] = v :=
  Vector.getElem_set_self p.isLt

theorem getElem_setPocket_ne {q : PocketNo} (h : q ≠ p) (v : Pocket) (s : State) :
    (setPocket q v s).pockets[p] = s.pockets[p] :=
  Vector.getElem_set_ne q.isLt p.isLt (Fin.val_ne_of_ne h)

theorem getElem_setCrimp_self (p : PocketNo) (v : CrimpHead) (s : State) : (setCrimp p v s).crimp[p] = v :=
  Vector.getElem_set_self p.isLt

theorem getElem_setCrimp_ne {q : PocketNo} (h : q ≠ p) (v : CrimpHead) (s : State) :
    (setCrimp q v s).crimp[p] = s.crimp[p] :=
  Vector.getElem_set_ne q.isLt p.isLt (Fin.val_ne_of_ne h)

theorem getElem_setHead_self (p : PocketNo) (v : Head) (s : State) : (setHead p v s).heads[p] = v :=
  Vector.getElem_set_self p.isLt

theorem getElem_setHead_ne {q : PocketNo} (h : q ≠ p) (v : Head) (s : State) :
    (setHead q v s).heads[p] = s.heads[p] :=
  Vector.getElem_set_ne q.isLt p.isLt (Fin.val_ne_of_ne h)

/-! ### A head that moves (R87) -/

/-- A move writes its one head, and its report touches the link controller alone. -/
theorem moveHead_eq (p : PocketNo) (event : HeadEvent) (f : Head → Head) (s : State) :
    moveHead p event f s =
      { setHead p (f s.heads[p]) s with link := (moveHead p event f s).link } := by
  unfold moveHead reportHead
  dsimp only
  split
  · rfl
  · rw [sendReport_eq]

theorem getElem_moveHead_self (p : PocketNo) (event : HeadEvent) (f : Head → Head) (s : State) :
    (moveHead p event f s).heads[p] = f s.heads[p] := by
  rw [moveHead_eq]
  exact getElem_setHead_self p _ s

theorem getElem_moveHead_ne {q : PocketNo} (h : q ≠ p) (event : HeadEvent) (f : Head → Head) (s : State) :
    (moveHead q event f s).heads[p] = s.heads[p] := by
  rw [moveHead_eq]
  exact getElem_setHead_ne h _ s

@[simp] theorem moveHead_pockets (event : HeadEvent) (f : Head → Head) :
    (moveHead p event f s).pockets = s.pockets := by rw [moveHead_eq]; rfl
@[simp] theorem moveHead_crimp (event : HeadEvent) (f : Head → Head) :
    (moveHead p event f s).crimp = s.crimp := by rw [moveHead_eq]; rfl
@[simp] theorem moveHead_retirements (event : HeadEvent) (f : Head → Head) :
    (moveHead p event f s).retirements = s.retirements := by rw [moveHead_eq]; rfl
@[simp] theorem moveHead_line (event : HeadEvent) (f : Head → Head) :
    (moveHead p event f s).line = s.line := by rw [moveHead_eq]; rfl
@[simp] theorem moveHead_config (event : HeadEvent) (f : Head → Head) :
    (moveHead p event f s).config = s.config := by rw [moveHead_eq]; rfl
theorem pocketsEmpty_moveHead (event : HeadEvent) (f : Head → Head) :
    pocketsEmpty (moveHead p event f s) = pocketsEmpty s := by rw [moveHead_eq]; rfl

/-! ### A retirement (R97, R98) -/

/-- A retired head: what a retirement makes of it where the table has room. -/
def retiredHead (cause : RetireCause) (h : Head) : Head :=
  { h with state := .retired, cause := some cause, overflow := false, remainder := 0 }

/-- A head OUT by overflow: what a retirement makes of it where the table is full. -/
def overflowedHead (cause : RetireCause) (h : Head) : Head :=
  { h with state := .out, cause := some cause, overflow := true, remainder := 0 }

/-- The entry of head p joins the tail of the retirement table. -/
def withEntry (p : PocketNo) (cause : RetireCause) (s : State) : State :=
  { s with retirements := s.retirements ++ [{ pocket := p, cause := cause, lastCan := s.heads[p].lastCan }] }

theorem retireHead_of_full {cause : RetireCause} {event : HeadEvent}
    (full : s.config.retirementLimit < s.retirements.length) :
    retireHead p cause event s = moveHead p .overflow (overflowedHead cause) s :=
  if_pos (decide_eq_true full)

theorem retireHead_of_room {cause : RetireCause} {event : HeadEvent}
    (room : s.retirements.length ≤ s.config.retirementLimit) :
    retireHead p cause event s = moveHead p event (retiredHead cause) (withEntry p cause s) :=
  if_neg (by simp only [tableFull, decide_eq_true_eq]; omega)

/-- Full table or not, a retirement writes heads, table and report queue alone. -/
theorem retireHead_eq (p : PocketNo) (cause : RetireCause) (event : HeadEvent) (s : State) :
    retireHead p cause event s =
      { s with
        heads := (retireHead p cause event s).heads, retirements := (retireHead p cause event s).retirements,
        link := (retireHead p cause event s).link } := by
  rcases Nat.lt_or_ge s.config.retirementLimit s.retirements.length with full | room
  · rw [retireHead_of_full full, moveHead_eq]
    rfl
  · rw [retireHead_of_room room, moveHead_eq]
    rfl

end Sys2Proof.Machine
end

section
/-! SUPPORT. What a change of the line state writes (R153), and what a drain cause does to a line whose pockets are not all
empty (R157, R158). -/

namespace Sys2Proof.Machine

variable {s : State} {p : PocketNo}

theorem endEpisode_eq (s : State) :
    endEpisode s =
      { s with
        position := { s.position with
          overspeedOpen := (endEpisode s).position.overspeedOpen, overspeedRun := (endEpisode s).position.overspeedRun },
        link := (endEpisode s).link } := by
  unfold endEpisode
  split
  · rw [sendReport_eq]
  · rfl

theorem failChangeover_eq (cause : FailCause) (s : State) :
    failChangeover cause s =
      { s with
        lots := { s.lots with
          changeover := (failChangeover cause s).lots.changeover,
          lastOutcome := (failChangeover cause s).lots.lastOutcome },
        link := (failChangeover cause s).link } := by
  unfold failChangeover
  split
  · rw [sendReport_eq]
  · rfl

/-- The hand-offs of a change of line state write the infeed gate, the overspeed episode, the changeover and reports. -/
theorem handOffLine_eq (before after : LineState) (s : State) :
    handOffLine before after s =
      { s with
        position := { s.position with
          overspeedOpen := (handOffLine before after s).position.overspeedOpen,
          overspeedRun := (handOffLine before after s).position.overspeedRun },
        infeedGate := (handOffLine before after s).infeedGate,
        lots := { s.lots with
          changeover := (handOffLine before after s).lots.changeover,
          lastOutcome := (handOffLine before after s).lots.lastOutcome },
        link := (handOffLine before after s).link } := by
  unfold handOffLine
  dsimp only
  generalize gated : (if before = .run ∧ after ≠ .run then { s with infeedGate := false } else s) = u
  have gate : u = { s with infeedGate := u.infeedGate } := by
    rw [← gated]
    split <;> rfl
  rw [gate]
  split <;> split
  · rw [failChangeover_eq, endEpisode_eq]
  · rw [failChangeover_eq]
  · rw [endEpisode_eq]
  · rfl

/-- A change of the line state that hands nothing else on: line control as `setLine` writes it, and the hand-offs. -/
theorem changeLine_eq (after : LineState) (drain : Option DrainCause) (event : LineEvent) (s : State) :
    let t := changeLine after drain event id s
    t = { s with
      position := { s.position with
        stallTimer := t.position.stallTimer, overspeedOpen := t.position.overspeedOpen,
        overspeedRun := t.position.overspeedRun },
      infeedGate := t.infeedGate, line := (setLine after drain s).line,
      lots := { s.lots with changeover := t.lots.changeover, lastOutcome := t.lots.lastOutcome }, link := t.link } := by
  dsimp only
  unfold changeLine
  dsimp only [id_eq]
  rw [sendReport_eq, handOffLine_eq]
  rfl

/-! ### A drain cause while a can rides (R157, R158) -/

theorem not_pocketsEmpty_of_can {r : CanRecord} (can : s.pockets[p].content = .can r) : pocketsEmpty s = false := by
  refine Bool.eq_false_iff.mpr fun empty => ?_
  have bare := List.all_eq_true.mp empty s.pockets[p] (Vector.mem_toList_iff.mpr (Vector.getElem_mem p.isLt))
  rw [can] at bare
  simp at bare

theorem checkDrain_of_not_pocketsEmpty (h : pocketsEmpty s = false) : checkDrain s = s :=
  if_neg (by simp [h])

theorem takeDrainCause_of_run {cause : DrainCause} (run : s.line.state = .run) (h : pocketsEmpty s = false) :
    takeDrainCause cause s = changeLine .drain (some cause) (.drain cause) id s := by
  have pockets : pocketsEmpty (changeLine .drain (some cause) (.drain cause) id s) = false := by
    rw [changeLine_eq]
    exact h
  unfold takeDrainCause
  rw [run]
  exact checkDrain_of_not_pocketsEmpty pockets

/-- Outside RUN and STARTING a drain cause is discarded (R157). -/
theorem takeDrainCause_of_not_running {cause : DrainCause} (run : s.line.state ≠ .run)
    (starting : s.line.state ≠ .starting) : takeDrainCause cause s = s := by
  unfold takeDrainCause
  split
  · contradiction
  · contradiction
  · rfl

/-- While a can rides, no drain cause completes a drain: pockets, crimp heads, heads and retirement table stay. -/
theorem takeDrainCause_eq {cause : DrainCause} (h : pocketsEmpty s = false) :
    let t := takeDrainCause cause s
    t = { s with position := t.position, infeedGate := t.infeedGate, line := t.line, lots := t.lots, link := t.link } := by
  dsimp only
  by_cases run : s.line.state = .run
  · rw [takeDrainCause_of_run run h, changeLine_eq]
  by_cases starting : s.line.state = .starting
  · have stops : takeDrainCause cause s = changeLine .stopped none (.drain cause) id s := by
      unfold takeDrainCause
      rw [starting]
    rw [stops, changeLine_eq]
  · rw [takeDrainCause_of_not_running run starting]

end Sys2Proof.Machine
end

section
/-! PROOF. R31, R88 to R92, R97 to R99: a retirement with the drain cause it hands on, the verdict point in each head state,
and the release crossing. -/

namespace Sys2Proof.Machine

variable {s : State} {p : PocketNo} {classes : FaultClasses} {id : CanId}

/-! ### A retirement and its drain cause (R97 to R99) -/

theorem retire_of_full {cause : RetireCause} {event : HeadEvent}
    (full : s.config.retirementLimit < s.retirements.length) :
    retire p cause event s = moveHead p .overflow (overflowedHead cause) s := by
  have holds : tableFull s = true := decide_eq_true full
  rw [retire, retireHead_of_full full, holds]
  rfl

theorem retire_of_below {cause : RetireCause} {event : HeadEvent}
    (below : s.retirements.length < s.config.retirementLimit) :
    retire p cause event s = moveHead p event (retiredHead cause) (withEntry p cause s) := by
  rw [retire, retireHead_of_room below.le]
  refine if_neg fun above => ?_
  simp [overLimit, withEntry] at above
  omega

/-- The retirement that takes the count above L is the one that hands RETIREMENT_LIMIT to line control. -/
theorem retire_of_at_limit {cause : RetireCause} {event : HeadEvent}
    (limit : s.retirements.length = s.config.retirementLimit) :
    retire p cause event s
      = takeDrainCause .retirementLimit (moveHead p event (retiredHead cause) (withEntry p cause s)) := by
  rw [retire, retireHead_of_room limit.le]
  refine if_pos ⟨?_, ?_⟩
  · simp [tableFull, limit]
  · simp [overLimit, withEntry, limit]

/-- While a can rides, a retirement leaves pockets and crimp heads, and every other head. -/
theorem retire_keeps {cause : RetireCause} {event : HeadEvent} (riding : pocketsEmpty s = false) :
    let t := retire p cause event s
    t.pockets = s.pockets ∧ t.crimp = s.crimp ∧ ∀ q : PocketNo, q ≠ p → t.heads[q] = s.heads[q] := by
  dsimp only
  rcases Nat.lt_trichotomy s.retirements.length s.config.retirementLimit with below | limit | full
  · rw [retire_of_below below]
    exact ⟨moveHead_pockets _ _, moveHead_crimp _ _, fun q other => getElem_moveHead_ne other.symm _ _ _⟩
  · have still := (pocketsEmpty_moveHead (s := withEntry p cause s) (p := p) event (retiredHead cause)).trans riding
    rw [retire_of_at_limit limit, takeDrainCause_eq still]
    exact ⟨moveHead_pockets _ _, moveHead_crimp _ _, fun q other => getElem_moveHead_ne other.symm _ _ _⟩
  · rw [retire_of_full full]
    exact ⟨moveHead_pockets _ _, moveHead_crimp _ _, fun q other => getElem_moveHead_ne other.symm _ _ _⟩

/-- A retirement with room in the table, of a head whose can still rides. -/
theorem retire_of_room {cause : RetireCause} {event : HeadEvent} (riding : pocketsEmpty s = false)
    (room : s.retirements.length ≤ s.config.retirementLimit) :
    let t := retire p cause event s
    t.heads[p] = retiredHead cause s.heads[p]
    ∧ t.retirements = s.retirements ++ [{ pocket := p, cause := cause, lastCan := s.heads[p].lastCan }]
    ∧ (s.line.state = .run → s.retirements.length = s.config.retirementLimit →
        t.line.state = .drain ∧ t.line.drainCause = some .retirementLimit)
    ∧ (s.retirements.length < s.config.retirementLimit → t.line = s.line) := by
  have head := getElem_moveHead_self p event (retiredHead cause) (withEntry p cause s)
  have still := (pocketsEmpty_moveHead (s := withEntry p cause s) (p := p) event (retiredHead cause)).trans riding
  dsimp only
  rcases room.lt_or_eq with below | limit
  · rw [retire_of_below below]
    exact ⟨head, moveHead_retirements _ _, fun _ limit => absurd limit below.ne, fun _ => moveHead_line _ _⟩
  · rw [retire_of_at_limit limit]
    refine ⟨?_, ?_, fun run _ => ?_, fun below => absurd limit below.ne⟩
    · rw [takeDrainCause_eq still]
      exact head
    · rw [takeDrainCause_eq still]
      exact moveHead_retirements _ _
    · have runs : (moveHead p event (retiredHead cause) (withEntry p cause s)).line.state = .run := by
        rw [moveHead_line]
        exact run
      rw [takeDrainCause_of_run runs still, changeLine_eq]
      exact ⟨rfl, rfl⟩

/-! ### A verdict point (R88 to R92) -/

/-- The state in which a verdict point moves its head: last can, tallies and consecutive count are taken (R88). -/
def verdictCounted (p : PocketNo) (classes : FaultClasses) (id : CanId) (s : State) : State :=
  setHead p (countVerdict classes id s.heads[p]) s

/-- R88 with every count held at its top written as a minimum. -/
theorem countVerdict_eq (classes : FaultClasses) (id : CanId) (h : Head) :
    countVerdict classes id h = { h with
      lastCan := some id,
      tallies := { h.tallies with
        seat := if classes.seat then min 65535 (h.tallies.seat + 1) else h.tallies.seat,
        dose := if classes.dose then min 65535 (h.tallies.dose + 1) else h.tallies.dose,
        crimp := if classes.crimp then min 65535 (h.tallies.crimp + 1) else h.tallies.crimp,
        jaw := if classes.jaw then min 65535 (h.tallies.jaw + 1) else h.tallies.jaw },
      consecutive := if anyClass classes then min 255 (h.consecutive + 1) else 0 } := by
  simp only [countVerdict, raiseTallies, saturatingSucc_eq_min]

theorem verdict_of_inService (inService : s.heads[p].state = .inService) :
    verdict p classes id s =
      if s.config.reseatThreshold ≤ (countVerdict classes id s.heads[p]).consecutive then
        moveHead p .verdict (fun h => { h with state := .reseatPending }) (verdictCounted p classes id s)
      else verdictCounted p classes id s := by
  have state : (countVerdict classes id s.heads[p]).state = .inService := inService
  unfold verdict
  dsimp only
  rw [getElem_setHead_self, state]
  rfl

theorem verdict_of_probation_faulty (probation : s.heads[p].state = .probation) (faulty : anyClass classes = true) :
    verdict p classes id s = retire p .threshold .verdict (verdictCounted p classes id s) := by
  have state : (countVerdict classes id s.heads[p]).state = .probation := probation
  unfold verdict
  dsimp only
  rw [getElem_setHead_self, state]
  exact if_pos faulty

/-- One clean can of PROBATION: one cycle fewer, and IN_SERVICE after the last (R91). -/
def cleanCycle (h : Head) : Head :=
  if h.remainder ≤ 1 then { h with remainder := 0, state := .inService, consecutive := 0 }
  else { h with remainder := h.remainder - 1 }

theorem verdict_of_probation_clean (probation : s.heads[p].state = .probation) (clean : ¬ anyClass classes = true) :
    verdict p classes id s = moveHead p .verdict cleanCycle (verdictCounted p classes id s) := by
  have state : (countVerdict classes id s.heads[p]).state = .probation := probation
  unfold verdict
  dsimp only
  rw [getElem_setHead_self, state]
  exact if_neg clean

theorem verdict_of_other (inService : s.heads[p].state ≠ .inService) (probation : s.heads[p].state ≠ .probation) :
    verdict p classes id s = verdictCounted p classes id s := by
  have state : (countVerdict classes id s.heads[p]).state = s.heads[p].state := rfl
  unfold verdict
  dsimp only
  rw [getElem_setHead_self, state]
  split
  · contradiction
  · contradiction
  all_goals rfl

/-- While a can rides, a verdict point leaves pockets and crimp heads, and every other head. -/
theorem verdict_keeps (riding : pocketsEmpty s = false) :
    let t := verdict p classes id s
    t.pockets = s.pockets ∧ t.crimp = s.crimp ∧ ∀ q : PocketNo, q ≠ p → t.heads[q] = s.heads[q] := by
  have count (q : PocketNo) (other : q ≠ p) : (verdictCounted p classes id s).heads[q] = s.heads[q] :=
    getElem_setHead_ne other.symm _ s
  have move (event : HeadEvent) (f : Head → Head) (q : PocketNo) (other : q ≠ p) :
      (moveHead p event f (verdictCounted p classes id s)).heads[q] = s.heads[q] :=
    (getElem_moveHead_ne other.symm event f _).trans (count q other)
  dsimp only
  by_cases inService : s.heads[p].state = .inService
  · rw [verdict_of_inService inService]
    split
    · exact ⟨moveHead_pockets _ _, moveHead_crimp _ _, move _ _⟩
    · exact ⟨rfl, rfl, count⟩
  by_cases probation : s.heads[p].state = .probation
  · by_cases faulty : anyClass classes = true
    · have still : pocketsEmpty (verdictCounted p classes id s) = false := riding
      obtain ⟨pockets, crimp, heads⟩ := retire_keeps (p := p) (cause := .threshold) (event := .verdict) still
      rw [verdict_of_probation_faulty probation faulty]
      exact ⟨pockets, crimp, fun q other => (heads q other).trans (count q other)⟩
    · rw [verdict_of_probation_clean probation faulty]
      exact ⟨moveHead_pockets _ _, moveHead_crimp _ _, move _ _⟩
  · rw [verdict_of_other inService probation]
    exact ⟨rfl, rfl, count⟩

/-- Only a verdict point in PROBATION can retire its head, and so reach the table and the line. -/
theorem verdict_of_not_probation (probation : s.heads[p].state ≠ .probation) :
    (verdict p classes id s).retirements = s.retirements ∧ (verdict p classes id s).line = s.line := by
  by_cases inService : s.heads[p].state = .inService
  · rw [verdict_of_inService inService]
    split
    · exact ⟨moveHead_retirements _ _, moveHead_line _ _⟩
    · exact ⟨rfl, rfl⟩
  · rw [verdict_of_other inService probation]
    exact ⟨rfl, rfl⟩

/-- A verdict point by the state of its head, whose counts it has taken as `h` (R88 to R92, R97 to R99). -/
theorem verdict_by_headState {h : Head} (riding : pocketsEmpty s = false)
    (took : countVerdict classes id s.heads[p] = h) :
    let t := verdict p classes id s
    let faulty := anyClass classes = true
    (s.heads[p].state = .inService →
      t.heads[p] = if s.config.reseatThreshold ≤ h.consecutive then { h with state := .reseatPending } else h)
    ∧ (s.heads[p].state = .probation → ¬ faulty → 1 < s.heads[p].remainder →
        t.heads[p] = { h with remainder := s.heads[p].remainder - 1 })
    ∧ (s.heads[p].state = .probation → ¬ faulty → s.heads[p].remainder ≤ 1 →
        t.heads[p] = { h with remainder := 0, state := .inService, consecutive := 0 })
    ∧ (s.heads[p].state = .probation → faulty → s.retirements.length ≤ s.config.retirementLimit →
        t.heads[p] = retiredHead .threshold h
        ∧ t.retirements = s.retirements ++ [{ pocket := p, cause := .threshold, lastCan := some id }]
        ∧ (s.line.state = .run → s.retirements.length = s.config.retirementLimit →
            t.line.state = .drain ∧ t.line.drainCause = some .retirementLimit)
        ∧ (s.retirements.length < s.config.retirementLimit → t.line = s.line))
    ∧ (s.heads[p].state = .probation → faulty → s.config.retirementLimit < s.retirements.length →
        t.heads[p] = overflowedHead .threshold h ∧ t.retirements = s.retirements ∧ t.line = s.line)
    ∧ (s.heads[p].state ≠ .inService → s.heads[p].state ≠ .probation → t.heads[p] = h)
    ∧ (s.heads[p].state ≠ .probation → t.retirements = s.retirements ∧ t.line = s.line) := by
  have head : (verdictCounted p classes id s).heads[p] = h := (getElem_setHead_self p _ s).trans took
  have remainder : s.heads[p].remainder = h.remainder := took ▸ rfl
  have lastCan : h.lastCan = some id := took ▸ rfl
  have still : pocketsEmpty (verdictCounted p classes id s) = false := riding
  dsimp only
  refine ⟨fun inService => ?inService, fun probation clean more => ?cycle, fun probation clean last => ?lastCycle,
    fun probation faulty room => ?retired, fun probation faulty full => ?overflowed,
    fun inService probation => ?other, fun probation => verdict_of_not_probation probation⟩
  case inService =>
    rw [verdict_of_inService inService, took]
    split
    · rw [getElem_moveHead_self, head]
    · exact head
  case cycle =>
    rw [remainder] at more ⊢
    rw [verdict_of_probation_clean probation clean, getElem_moveHead_self, head, cleanCycle, if_neg (by omega)]
  case lastCycle =>
    rw [remainder] at last
    rw [verdict_of_probation_clean probation clean, getElem_moveHead_self, head, cleanCycle, if_pos last]
  case retired =>
    have retires := retire_of_room (p := p) (cause := .threshold) (event := .verdict) still room
    rw [head, lastCan] at retires
    rw [verdict_of_probation_faulty probation faulty]
    exact retires
  case overflowed =>
    rw [verdict_of_probation_faulty probation faulty, retire_of_full (s := verdictCounted p classes id s) full,
      getElem_moveHead_self, head]
    exact ⟨rfl, moveHead_retirements _ _, moveHead_line _ _⟩
  case other =>
    rw [verdict_of_other inService probation, head]

/-! ### The release crossing (R31, R32, R79) -/

/-- A can's pocket RELEASED, its jaw open and its bell lifted and watched: what every release of a can begins with. -/
def canReleased (p : PocketNo) (r : CanRecord) (s : State) : State :=
  setPocket p { s.pockets[p] with step := .released } (releaseHead p (canId r) s)

theorem releaseCrossing_of_can {r : CanRecord} (can : s.pockets[p].content = .can r) :
    releaseCrossing p s =
      if s.pockets[p].halted then canReleased p r s
      else verdict p (faultClasses r.reasons) (canId r) (canReleased p r s) := by
  unfold releaseCrossing
  dsimp only
  split
  · rename_i r' can'
    obtain rfl : r = r' := Content.can.inj (can.symm.trans can')
    rfl
  · rename_i bare
    exact absurd can (bare r)

theorem releaseCrossing_of_no_can (bare : ∀ r, s.pockets[p].content ≠ .can r) :
    releaseCrossing p s =
      if s.pockets[p].step = .calPass then setCrimp p { s.crimp[p] with jawClosed := false } s else s := by
  unfold releaseCrossing
  dsimp only
  split
  · rename_i r can
    exact absurd can (bare r)
  · rfl

/-- What every release of a can leaves in its pocket and at its head's bell and jaw, whatever its halted mark. -/
theorem releaseCrossing_pocket_crimp {r : CanRecord} (can : s.pockets[p].content = .can r) :
    (releaseCrossing p s).pockets[p] = { s.pockets[p] with step := .released }
    ∧ (releaseCrossing p s).crimp[p] = { s.crimp[p] with
        bellLowered := false, jawClosed := false, watch := if s.inputs.bellOpen[p] then none else some (canId r) } := by
  have pocket : (canReleased p r s).pockets[p] = { s.pockets[p] with step := .released } := getElem_setPocket_self p _ _
  have crimp : (canReleased p r s).crimp[p] = { s.crimp[p] with
      bellLowered := false, jawClosed := false, watch := if s.inputs.bellOpen[p] then none else some (canId r) } :=
    getElem_setCrimp_self p _ _
  rw [releaseCrossing_of_can can]
  split
  · exact ⟨pocket, crimp⟩
  · have riding : pocketsEmpty (canReleased p r s) = false := not_pocketsEmpty_of_can (p := p) (by rw [pocket]; exact can)
    obtain ⟨pockets, crimps, -⟩ := verdict_keeps (p := p) (classes := faultClasses r.reasons) (id := canId r) riding
    exact ⟨(congrArg (·[p]) pockets).trans pocket, (congrArg (·[p]) crimps).trans crimp⟩

/-- Settles O26: the release by the pocket's content and halted mark, then the verdict point by the head's state. -/
theorem releaseFreesTheCanAndTakesItsVerdict : Obligations.ReleaseFreesTheCanAndTakesItsVerdict := by
  unfold Obligations.ReleaseFreesTheCanAndTakesItsVerdict
  intro p s
  refine ⟨fun bare pass => ?_, fun bare other => ?_, fun r can => ?_⟩
  · rw [releaseCrossing_of_no_can bare, if_pos pass]
  · rw [releaseCrossing_of_no_can bare, if_neg other]
  obtain ⟨pocket, crimp⟩ := releaseCrossing_pocket_crimp can
  refine ⟨by rw [pocket], by rw [pocket]; exact can, by rw [crimp], by rw [crimp], by rw [crimp], fun halted => ?_,
    fun unmarked => ?_⟩
  · rw [releaseCrossing_of_can can, if_pos halted]
    rfl
  have judged : releaseCrossing p s = verdict p (faultClasses r.reasons) (canId r) (canReleased p r s) := by
    rw [releaseCrossing_of_can can, unmarked]
    rfl
  have riding : pocketsEmpty (canReleased p r s) = false :=
    not_pocketsEmpty_of_can (p := p) ((congrArg Pocket.content (getElem_setPocket_self p _ _)).trans can)
  have counts := countVerdict_eq (faultClasses r.reasons) (canId r) s.heads[p]
  rw [judged]
  exact ⟨(verdict_keeps riding).2.2, verdict_by_headState (p := p) (s := canReleased p r s) riding counts⟩

end Sys2Proof.Machine
end

section
/-! SUPPORT. What the blocks do to a pocket that has ended its revolution UNKNOWN and to its head: nothing, whatever the other
pockets, heads and channels meet. First the operations of the channel unit and of HALT entry, which write their own tables
alone (`Aside`), then those that reach lots, line and position counter (`Spares`). -/

namespace Sys2Proof.Machine

variable {s t : State} {p q : PocketNo} {c : ChannelNo}

/-- What an operation on gas, pockets, strokes and heads does at most between s and t, seen from pocket p: it writes those
tables and the report queue alone, leaves the bell-open watch of p, and, where p is cleared and UNKNOWN, its pocket and
head. -/
structure Aside (p : PocketNo) (s t : State) : Prop where
  elsewhere : t = { s with gas := t.gas, pockets := t.pockets, crimp := t.crimp, heads := t.heads, link := t.link }
  watch     : t.crimp[p].watch = s.crimp[p].watch
  pocket    : s.pockets[p] = clearedPocket .unknown → t.pockets[p] = clearedPocket .unknown
  head      : s.pockets[p] = clearedPocket .unknown → t.heads[p] = s.heads[p]

theorem Aside.refl (p : PocketNo) (s : State) : Aside p s s := ⟨rfl, rfl, id, fun _ => rfl⟩

theorem Aside.trans {u : State} (h : Aside p s t) (k : Aside p t u) : Aside p s u := by
  refine ⟨?_, k.watch.trans h.watch, fun c => k.pocket (h.pocket c), fun c => (k.head (h.pocket c)).trans (h.head c)⟩
  rw [k.elsewhere, h.elsewhere]

/-! ### One entry of a table -/

theorem gas_aside {v : GasUnit} (h : Aside p s t) : Aside p s { t with gas := v } :=
  h.trans ⟨rfl, rfl, id, fun _ => rfl⟩

theorem sendReport_aside {r : Report} (h : Aside p s t) : Aside p s (sendReport r t) := by
  refine h.trans ?_
  rw [sendReport_eq]
  exact ⟨rfl, rfl, id, fun _ => rfl⟩

theorem not_cleared_of_step_ne_idle (busy : s.pockets[p].step ≠ .idle) : s.pockets[p] ≠ clearedPocket .unknown :=
  fun cleared => busy (congrArg Pocket.step cleared)

/-- A pocket that is written while at work is not the cleared one. -/
theorem setPocket_aside {v : Pocket} (busy : t.pockets[q].step ≠ .idle) (h : Aside p s t) :
    Aside p s (setPocket q v t) := by
  refine h.trans ⟨rfl, rfl, fun cleared => ?_, fun _ => rfl⟩
  have other : q ≠ p := fun same => not_cleared_of_step_ne_idle (same ▸ busy) cleared
  rw [getElem_setPocket_ne other, cleared]

theorem setCrimp_aside {v : CrimpHead} (kept : v.watch = t.crimp[q].watch) (h : Aside p s t) :
    Aside p s (setCrimp q v t) := by
  refine h.trans ⟨rfl, ?_, id, fun _ => rfl⟩
  by_cases same : q = p
  · subst same
    rw [getElem_setCrimp_self, kept]
  · rw [getElem_setCrimp_ne same]

/-! ### The channel unit (R29, R48, R54, R65) -/

theorem announceGrant_aside (h : Aside p s t) : Aside p s (announceGrant q c t) := by
  unfold announceGrant
  dsimp only
  split
  · rename_i waits
    exact setPocket_aside (waits.trans_ne (by decide)) h
  · exact h

theorem announceClose_aside (h : Aside p s t) : Aside p s (announceClose q t) := by
  unfold announceClose
  dsimp only
  split
  · rename_i charges
    exact setPocket_aside (charges.trans_ne (by decide)) h
  · exact h

theorem announceRemoval_aside (h : Aside p s t) : Aside p s (announceRemoval q t) := by
  unfold announceRemoval
  dsimp only
  split
  · rename_i waits
    exact setPocket_aside (waits.trans_ne (by decide)) h
  · exact h

theorem grantOnce_aside (h : Aside p s t) : Aside p s (grantOnce t) := by
  unfold grantOnce
  split
  · exact announceGrant_aside (gas_aside (gas_aside (gas_aside h)))
  · exact h

theorem grantSearch_aside (h : Aside p s t) : Aside p s (grantSearch t) :=
  grantOnce_aside (grantOnce_aside (grantOnce_aside (grantOnce_aside h)))

theorem evaluateSupply_aside (h : Aside p s t) : Aside p s (evaluateSupply t) := by
  unfold evaluateSupply
  dsimp only
  split
  · exact h
  · split
    · exact grantSearch_aside (sendReport_aside (gas_aside h))
    · exact sendReport_aside (gas_aside h)

theorem closeIfCharging_aside {cause : CloseCause} (h : Aside p s t) : Aside p s (closeIfCharging cause c t) := by
  unfold closeIfCharging closeCharge
  dsimp only
  split
  · split
    · exact announceClose_aside (gas_aside (gas_aside h))
    · exact gas_aside h
  · exact h

/-! ### HALT entry (R40, R42, R53, R78) -/

theorem foldl_aside {α : Type} {f : State → α → State} {l : List α} (each : ∀ s a, Aside p s (f s a))
    (h : Aside p s t) : Aside p s (l.foldl f t) := by
  induction l generalizing t with
  | nil => exact h
  | cons a l ih => exact ih (h.trans (each t a))

theorem haltGas_aside (h : Aside p s t) : Aside p s (haltGas t) :=
  foldl_aside (fun _ _ => closeIfCharging_aside (Aside.refl p _))
    (foldl_aside (fun _ _ => announceRemoval_aside (Aside.refl p _)) (gas_aside h))

theorem haltPockets_aside (h : Aside p s t) : Aside p s (haltPockets t) := by
  unfold haltPockets
  refine h.trans ⟨rfl, rfl, fun cleared => ?_, fun _ => rfl⟩
  simp only [Fin.getElem_fin, Vector.getElem_ofFn] at cleared ⊢
  rw [cleared]
  rfl

theorem haltCrimp_watch (k : CrimpHead) : (haltCrimp k).watch = k.watch := by
  unfold haltCrimp
  split
  · split <;> rfl
  · rfl

theorem haltStrokes_aside (h : Aside p s t) : Aside p s (haltStrokes t) := by
  unfold haltStrokes
  refine h.trans ⟨rfl, ?_, id, fun _ => rfl⟩
  simp only [Fin.getElem_fin, Vector.getElem_ofFn, haltCrimp_watch]

theorem interruptHead_eq (q : PocketNo) (s : State) :
    interruptHead q s = { s with heads := (interruptHead q s).heads, link := (interruptHead q s).link } := by
  unfold interruptHead
  split
  · rw [moveHead_eq]
    rfl
  · rfl

theorem interruptHead_aside (other : q ≠ p) (h : Aside p s t) : Aside p s (interruptHead q t) := by
  refine h.trans ⟨by rw [interruptHead_eq], by rw [interruptHead_eq], ?_, fun _ => ?_⟩
  · rw [interruptHead_eq]
    exact id
  · unfold interruptHead
    split
    · exact getElem_moveHead_ne other _ _ _
    · rfl

/-- An interrupted calibration is of a CAL_PASS pocket, which a cleared one is not. -/
theorem interruptCalibration_aside (h : Aside p s t) : Aside p s (interruptCalibration q t) := by
  unfold interruptCalibration
  split
  · rename_i pass
    have busy : t.pockets[q].step ≠ .idle := pass.trans_ne (by decide)
    have opened : Aside p t (modifyCrimp q (fun k => { k with jawClosed := false, stroke := none })
        (modifyPocket q (fun k => { k with step := .idle }) t)) :=
      setCrimp_aside rfl (setPocket_aside busy (Aside.refl p t))
    by_cases same : q = p
    · subst same
      have working := not_cleared_of_step_ne_idle busy
      refine h.trans ⟨?_, ?_, fun cleared => absurd cleared working, fun cleared => absurd cleared working⟩
      · rw [interruptHead_eq]
        rfl
      · rw [interruptHead_eq]
        exact opened.watch
    · exact interruptHead_aside same (h.trans opened)
  · exact h

theorem haltBlocks_aside (h : Aside p s t) : Aside p s (haltBlocks t) :=
  foldl_aside (fun _ _ => interruptCalibration_aside (Aside.refl p _))
    (haltStrokes_aside (haltGas_aside (haltPockets_aside h)))

/-! ### Lots, line and position counter -/

/-- What an operation that reaches lots, line and position counter too does at most, seen from pocket p: configuration,
retirement table, trail and standstill indicator are left, and of p what `Aside` says. -/
structure Spares (p : PocketNo) (s t : State) : Prop where
  config      : t.config = s.config
  retirements : t.retirements = s.retirements
  trail       : t.trail = s.trail
  standstill  : t.position.standstill = s.position.standstill
  watch       : t.crimp[p].watch = s.crimp[p].watch
  pocket      : s.pockets[p] = clearedPocket .unknown → t.pockets[p] = clearedPocket .unknown
  head        : s.pockets[p] = clearedPocket .unknown → t.heads[p] = s.heads[p]

theorem Spares.refl (p : PocketNo) (s : State) : Spares p s s := ⟨rfl, rfl, rfl, rfl, rfl, id, fun _ => rfl⟩

theorem Spares.trans {u : State} (h : Spares p s t) (k : Spares p t u) : Spares p s u :=
  ⟨k.config.trans h.config, k.retirements.trans h.retirements, k.trail.trans h.trail, k.standstill.trans h.standstill,
    k.watch.trans h.watch, fun c => k.pocket (h.pocket c), fun c => (k.head (h.pocket c)).trans (h.head c)⟩

theorem Aside.spares (h : Aside p s t) : Spares p s t :=
  ⟨by rw [h.elsewhere], by rw [h.elsewhere], by rw [h.elsewhere], by rw [h.elsewhere], h.watch, h.pocket, h.head⟩

/-- A change of what neither a pocket nor a head reads. -/
theorem spares_free {pc : PositionCounter} {a : Bool} {g : GasUnit} {l : LotRegister} {n : LineControl} {k : LinkController}
    {i : Nat} (h : Spares p s t) (still : pc.standstill = t.position.standstill := by rfl) :
    Spares p s { t with position := pc, infeedGate := a, gas := g, lots := l, line := n, link := k, freeIx := i } :=
  h.trans ⟨rfl, rfl, rfl, still, rfl, id, fun _ => rfl⟩

/-! ### A can counted lost (R141, R142, R147) -/

theorem refreshSlots_spares (h : Spares p s t) : Spares p s (refreshSlots t) := by
  unfold refreshSlots
  exact Spares.trans (spares_free h) (evaluateSupply_aside (Aside.refl p _)).spares

theorem refreshSlots_line (s : State) : (refreshSlots s).line = s.line := by
  unfold refreshSlots
  rw [(evaluateSupply_aside (Aside.refl 0 _)).elsewhere]
  rfl

theorem settleLot_spares {lot : LotId} (h : Spares p s t) : Spares p s (settleLot lot t) := by
  unfold settleLot
  split
  · split
    · refine refreshSlots_spares (spares_free (h.trans ?_))
      exact (sendReport_aside (sendReport_aside (Aside.refl p t))).spares
    · exact h
  · exact h

theorem settleLot_line (lot : LotId) (s : State) : (settleLot lot s).line = s.line := by
  unfold settleLot
  split
  · split
    · simp [commitClosing, refreshSlots_line]
    · rfl
  · rfl

theorem putLot_eq (l : LotRecord) (s : State) : putLot l s = { s with lots := (putLot l s).lots } := by
  unfold putLot
  split <;> rfl

theorem countLost_spares {lot : LotId} (h : Spares p s t) : Spares p s (countLost lot t) := by
  unfold countLost countEvent
  split
  · rw [putLot_eq]
    exact settleLot_spares (spares_free (spares_free h))
  · exact h

theorem countLost_line (lot : LotId) (s : State) : (countLost lot s).line = s.line := by
  unfold countLost countEvent
  split
  · rw [settleLot_line, putLot_eq]
  · rfl

/-- The record of an open lot is the current lot's where no lot is closing. -/
theorem openLot_of_no_closing {lot : LotId} {l : LotRecord} (closing : s.lots.closing = none)
    (opened : openLot lot s = some l) : s.lots.current = some l ∧ l.lot = lot := by
  unfold openLot at opened
  rw [closing] at opened
  split at opened
  · split at opened
    · rename_i l' current same
      obtain rfl := Option.some.inj opened
      exact ⟨current, same⟩
    · contradiction
  · contradiction

theorem openLot_of_current {lot : LotId} {l : LotRecord} (current : s.lots.current = some l) (same : l.lot = lot) :
    openLot lot s = some l := by
  unfold openLot
  rw [current]
  exact if_pos same

/-- Where no lot is closing, a can counted lost is counted in the current lot. -/
theorem countLost_current {lot : LotId} {l : LotRecord} (closing : s.lots.closing = none)
    (opened : openLot lot s = some l) (below : l.lost < 4294967295) :
    (countLost lot s).lots.current = some { l with lost := l.lost + 1, inFlight := l.inFlight - 1 } := by
  obtain ⟨current, -⟩ := openLot_of_no_closing closing opened
  have isOpen : isCurrent l.lot s = true := by simp [isCurrent, current]
  unfold countLost countEvent
  rw [opened]
  simp [putLot, isOpen, settleLot, closing, raiseCount, below]

/-! ### A halt cause (R159 to R161) -/

theorem handOffLine_spares {before after : LineState} (h : Spares p s t) : Spares p s (handOffLine before after t) := by
  rw [handOffLine_eq]
  exact spares_free h

theorem checkStandstill_spares (h : Spares p s t) : Spares p s (checkStandstill t) := by
  unfold checkStandstill
  split
  · rw [changeLine_eq]
    exact spares_free h
  · exact h

theorem setLine_spares {after : LineState} {drain : Option DrainCause} (h : Spares p s t) :
    Spares p s (setLine after drain t) := spares_free h

/-- The line in HALT with its record written, before the blocks are told (R159, R161). -/
def haltRecorded (cause : HaltCause) (s : State) : State :=
  let u := setLine .halt none s
  { u with line := { u.line with haltRecord := some (newHaltRecord cause s.line.state u) } }

/-- The blocks told and the reports sent, before the standstill indicator is looked at (R159). -/
def haltEntered (cause : HaltCause) (s : State) : State :=
  sendReport (.lineState s.line.state .halt (.halt cause)) (sendReport (.haltEntered cause)
    (handOffLine s.line.state .halt (haltBlocks (haltRecorded cause s))))

theorem enterHalt_eq (cause : HaltCause) (s : State) : enterHalt cause s = checkStandstill (haltEntered cause s) := rfl

theorem haltEntered_spares {cause : HaltCause} : Spares p s (haltEntered cause s) := by
  have recorded : Spares p s (haltRecorded cause s) := spares_free (setLine_spares (Spares.refl p s))
  have told := recorded.trans (haltBlocks_aside (Aside.refl p _)).spares
  exact (handOffLine_spares told).trans (sendReport_aside (sendReport_aside (Aside.refl p _))).spares

/-- What HALT entry makes of the line, and that it leaves the lot records. -/
theorem haltEntered_line_lots (cause : HaltCause) (s : State) :
    let t := haltEntered cause s
    t.line.state = .halt ∧ t.line.haltRecord.map (·.first) = some cause
      ∧ t.lots.current = s.lots.current ∧ t.lots.closing = s.lots.closing := by
  dsimp only [haltEntered]
  rw [sendReport_line, sendReport_line, sendReport_lots, sendReport_lots, handOffLine_eq,
    (haltBlocks_aside (Aside.refl 0 _)).elsewhere]
  exact ⟨rfl, rfl, rfl, rfl⟩

/-- A halted line at standstill goes on to STOPPED, with its halt record and the lot records (R160). -/
theorem checkStandstill_of_halt (halt : s.line.state = .halt) :
    let t := checkStandstill s
    t.line.state = (if s.position.standstill then .stopped else .halt) ∧ t.line.haltRecord = s.line.haltRecord
      ∧ t.lots.current = s.lots.current ∧ t.lots.closing = s.lots.closing := by
  unfold checkStandstill
  dsimp only
  by_cases still : s.position.standstill = true
  · rw [if_pos ⟨halt, still⟩, if_pos still, changeLine_eq]
    exact ⟨rfl, rfl, rfl, rfl⟩
  · rw [if_neg (fun both => still both.2), if_neg still]
    exact ⟨halt, rfl, rfl, rfl⟩

theorem enterHalt_line_lots (cause : HaltCause) (s : State) :
    let t := enterHalt cause s
    t.line.state = (if s.position.standstill then .stopped else .halt)
      ∧ t.line.haltRecord.map (·.first) = some cause
      ∧ t.lots.current = s.lots.current ∧ t.lots.closing = s.lots.closing := by
  obtain ⟨halt, first, current, closing⟩ := haltEntered_line_lots cause s
  obtain ⟨after, record, current', closing'⟩ := checkStandstill_of_halt halt
  rw [(haltEntered_spares (p := 0)).standstill] at after
  dsimp only
  rw [enterHalt_eq]
  exact ⟨after, by rw [record, first], current'.trans current, closing'.trans closing⟩

theorem takeHaltCause_of_permit {cause : HaltCause} (permit : permitIn s.line.state = true) :
    takeHaltCause cause s = enterHalt cause s := by
  unfold takeHaltCause
  split
  case h_4 halt => simp [halt, permitIn] at permit
  case h_5 stopped => simp [stopped, permitIn] at permit
  all_goals rfl

theorem takeHaltCause_of_no_permit {cause : HaltCause} (permit : permitIn s.line.state = false) :
    ∃ record, takeHaltCause cause s = { s with line := { s.line with haltRecord := record } } := by
  unfold takeHaltCause
  split
  case h_4 => exact ⟨_, rfl⟩
  case h_5 => exact ⟨s.line.haltRecord, rfl⟩
  all_goals rename_i running; simp [running, permitIn] at permit

theorem takeHaltCause_spares {cause : HaltCause} (h : Spares p s t) : Spares p s (takeHaltCause cause t) := by
  cases permit : permitIn t.line.state
  · obtain ⟨record, joins⟩ := takeHaltCause_of_no_permit (cause := cause) permit
    rw [joins]
    exact spares_free h
  · rw [takeHaltCause_of_permit permit, enterHalt_eq]
    exact checkStandstill_spares (h.trans haltEntered_spares)

/-- A halt cause leaves no line that a drain cause could move, and leaves the lot records. -/
theorem takeHaltCause_permit_lots (cause : HaltCause) (s : State) :
    let t := takeHaltCause cause s
    permitIn t.line.state = false ∧ t.lots.current = s.lots.current ∧ t.lots.closing = s.lots.closing := by
  dsimp only
  cases permit : permitIn s.line.state
  · obtain ⟨record, joins⟩ := takeHaltCause_of_no_permit (cause := cause) permit
    rw [joins]
    exact ⟨permit, rfl, rfl⟩
  · obtain ⟨after, -, lots⟩ := enterHalt_line_lots cause s
    rw [takeHaltCause_of_permit permit]
    refine ⟨?_, lots⟩
    rw [after]
    split <;> rfl

end Sys2Proof.Machine
end

section
/-! PROOF. R33 to R35, R81, R96: the DISCHARGE crossing, with the bell-open watch closed and with it still open. -/

namespace Sys2Proof.Machine

variable {s : State} {p : PocketNo} {id : CanId} {r : CanRecord}

/-! ### The watch closed (R33, R34) -/

theorem dischargeCrossing_of_running (shut : s.crimp[p].watch = none)
    (running : s.line.state = .run ∨ s.line.state = .drain) : dischargeCrossing p s = handToTrail p s := by
  have judged : runOrDrain s.line.state = true := by rcases running with h | h <;> rw [h] <;> rfl
  unfold dischargeCrossing
  rw [shut]
  exact if_pos judged

theorem dischargeCrossing_of_not_running (shut : s.crimp[p].watch = none)
    (idle : s.line.state = .stopped ∨ s.line.state = .starting ∨ s.line.state = .halt) :
    dischargeCrossing p s = giveUpCan p s := by
  have judged : ¬ runOrDrain s.line.state = true := by rcases idle with h | h | h <;> rw [h] <;> nofun
  unfold dischargeCrossing
  rw [shut]
  exact if_neg judged

theorem giveUpCan_of_can (can : s.pockets[p].content = .can r) :
    giveUpCan p s = countLost r.lot (setPocket p (clearedPocket .unknown) s) := by
  unfold giveUpCan
  rw [can]

theorem giveUpCan_of_no_can (bare : ∀ r, s.pockets[p].content ≠ .can r) :
    giveUpCan p s = setPocket p (clearedPocket s.pockets[p].content) s := by
  unfold giveUpCan
  split
  · rename_i r can
    exact absurd can (bare r)
  · rfl

/-! ### The stuck head (R96) -/

/-- The last can and the STUCK tally, which every stuck bell writes. -/
def stuckCounted (id : CanId) (h : Head) : Head :=
  { h with lastCan := some id, tallies := { h.tallies with stuck := min 65535 (h.tallies.stuck + 1) } }

/-- Whatever the head's state, a stuck bell writes heads, table and report queue alone. -/
theorem stuckHead_eq (p : PocketNo) (id : CanId) (s : State) :
    stuckHead p id s =
      { s with
        heads := (stuckHead p id s).heads, retirements := (stuckHead p id s).retirements,
        link := (stuckHead p id s).link } := by
  unfold stuckHead
  dsimp only
  split
  · rfl
  · rfl
  all_goals
    rw [retireHead_eq]
    rfl

theorem stuckHead_of_retired (retired : s.heads[p].state = .retired) :
    (stuckHead p id s).heads[p] = { stuckCounted id s.heads[p] with cause := some .stuck }
      ∧ (stuckHead p id s).retirements = s.retirements.map (entryStuck p) := by
  have head := getElem_setHead_self p (stuckCounted id s.heads[p]) s
  unfold stuckHead
  dsimp only
  rw [saturatingSucc_eq_min]
  split
  · refine ⟨(getElem_setHead_self p _ _).trans ?_, rfl⟩
    exact congrArg (fun h : Head => { h with cause := some .stuck }) head
  all_goals
    rename_i other
    exact absurd (retired.symm.trans other) (by decide)

theorem stuckHead_of_live (retired : s.heads[p].state ≠ .retired) (reseating : s.heads[p].state ≠ .reseating) :
    stuckHead p id s = retireHead p .stuck .stuck (setHead p (stuckCounted id s.heads[p]) s) := by
  unfold stuckHead
  dsimp only
  rw [saturatingSucc_eq_min]
  split
  · contradiction
  · contradiction
  all_goals rfl

theorem stuckHead_of_room (retired : s.heads[p].state ≠ .retired) (reseating : s.heads[p].state ≠ .reseating)
    (room : s.retirements.length ≤ s.config.retirementLimit) :
    (stuckHead p id s).heads[p] = retiredHead .stuck (stuckCounted id s.heads[p])
      ∧ (stuckHead p id s).retirements
        = s.retirements ++ [{ pocket := p, cause := .stuck, lastCan := some id }] := by
  have head := getElem_setHead_self p (stuckCounted id s.heads[p]) s
  rw [stuckHead_of_live retired reseating, retireHead_of_room (s := setHead p _ s) room, getElem_moveHead_self,
    moveHead_retirements, withEntry, head]
  exact ⟨rfl, rfl⟩

theorem stuckHead_of_full (retired : s.heads[p].state ≠ .retired) (reseating : s.heads[p].state ≠ .reseating)
    (full : s.config.retirementLimit < s.retirements.length) :
    (stuckHead p id s).heads[p] = overflowedHead .stuck (stuckCounted id s.heads[p])
      ∧ (stuckHead p id s).retirements = s.retirements := by
  rw [stuckHead_of_live retired reseating, retireHead_of_full (s := setHead p _ s) full, getElem_moveHead_self,
    moveHead_retirements, getElem_setHead_self]
  exact ⟨rfl, rfl⟩

/-! ### The watch still open (R35, R81) -/

/-- A line that neither runs nor starts takes no RETIREMENT_LIMIT (R157). -/
theorem handLimit_of_no_permit {full : Bool} (permit : permitIn s.line.state = false) : handLimit full s = s := by
  unfold handLimit
  split
  · refine takeDrainCause_of_not_running ?_ ?_ <;> intro running <;> simp [running, permitIn] at permit
  · rfl

/-- The watch closed, HEAD_STUCK sent and the pocket cleared, with the can not yet counted. -/
def stuckCleared (p : PocketNo) (id : CanId) (s : State) : State :=
  setPocket p (clearedPocket .unknown)
    (sendReport (.headStuck p id s.line.state) (setCrimp p { s.crimp[p] with watch := none } s))

/-- The can of a stuck bell given up and counted lost, before the head health unit is told. -/
def stuckGivenUp (p : PocketNo) (id : CanId) (r : CanRecord) (s : State) : State :=
  countLost r.lot (stuckCleared p id s)

/-- What the can given up leaves of the state, and what it makes of its pocket and watch. -/
theorem stuckGivenUp_keeps (p : PocketNo) (id : CanId) (r : CanRecord) (s : State) :
    let g := stuckGivenUp p id r s
    g.config = s.config ∧ g.retirements = s.retirements ∧ g.trail = s.trail ∧ g.line = s.line
      ∧ g.position.standstill = s.position.standstill ∧ g.heads[p] = s.heads[p]
      ∧ g.pockets[p] = clearedPocket .unknown ∧ g.crimp[p].watch = none := by
  have cleared : (stuckCleared p id s).pockets[p] = clearedPocket .unknown := getElem_setPocket_self p _ _
  have closed : (stuckCleared p id s).crimp[p].watch = none := by simp [stuckCleared]
  have spared : Spares p (stuckCleared p id s) (stuckGivenUp p id r s) := countLost_spares (Spares.refl p _)
  have line : (stuckGivenUp p id r s).line = (stuckCleared p id s).line := countLost_line _ _
  refine ⟨spared.config.trans ?_, spared.retirements.trans ?_, spared.trail.trans ?_, line.trans ?_,
    spared.standstill.trans ?_, (spared.head cleared).trans ?_, spared.pocket cleared, spared.watch.trans closed⟩
  all_goals simp [stuckCleared]

/-- The head health unit told of the stuck bell, before line control takes HEAD_STUCK (R81). -/
def stuckTold (p : PocketNo) (id : CanId) (r : CanRecord) (s : State) : State :=
  stuckHead p id (stuckGivenUp p id r s)

theorem stuckTold_keeps (p : PocketNo) (id : CanId) (r : CanRecord) (s : State) :
    let w := stuckTold p id r s
    w.trail = s.trail ∧ w.line = s.line ∧ w.position.standstill = s.position.standstill
      ∧ w.pockets[p] = clearedPocket .unknown ∧ w.crimp[p].watch = none := by
  obtain ⟨-, -, trail, line, standstill, -, pocket, shut⟩ := stuckGivenUp_keeps p id r s
  dsimp only [stuckTold]
  rw [stuckHead_eq]
  exact ⟨trail, line, standstill, pocket, shut⟩

/-- Where no lot is closing, the can of the stuck bell is counted lost in the current lot. -/
theorem stuckTold_current {l : LotRecord} (closing : s.lots.closing = none) (opened : openLot r.lot s = some l)
    (below : l.lost < 4294967295) :
    (stuckTold p id r s).lots.current = some { l with lost := l.lost + 1, inFlight := l.inFlight - 1 } := by
  rw [stuckTold, stuckHead_eq]
  exact countLost_current (s := stuckCleared p id s) (by simpa [stuckCleared] using closing)
    (by simpa [stuckCleared, openLot] using opened) below

/-- The head and the table after a stuck bell, by the state that the head was in (R96 to R98). -/
theorem stuckTold_by_headState (p : PocketNo) (id : CanId) (r : CanRecord) (s : State) :
    let w := stuckTold p id r s
    let h := stuckCounted id s.heads[p]
    (s.heads[p].state ≠ .retired → s.heads[p].state ≠ .reseating →
      (s.retirements.length ≤ s.config.retirementLimit →
        w.heads[p] = retiredHead .stuck h
        ∧ w.retirements = s.retirements ++ [{ pocket := p, cause := .stuck, lastCan := some id }])
      ∧ (s.config.retirementLimit < s.retirements.length →
        w.heads[p] = overflowedHead .stuck h ∧ w.retirements = s.retirements))
    ∧ (s.heads[p].state = .retired →
      w.heads[p] = { h with cause := some .stuck } ∧ w.retirements = s.retirements.map (entryStuck p)) := by
  obtain ⟨config, retirements, -, -, -, head, -, -⟩ := stuckGivenUp_keeps p id r s
  dsimp only [stuckTold]
  rw [← head, ← retirements, ← config]
  exact ⟨fun live calm => ⟨stuckHead_of_room live calm, stuckHead_of_full live calm⟩, stuckHead_of_retired⟩

theorem headStuckAt_of_can (can : s.pockets[p].content = .can r) :
    let g := stuckGivenUp p id r s
    headStuckAt p id s =
      handLimit (tableFull g || g.heads[p].state = .retired || g.heads[p].state = .reseating)
        (takeHaltCause .headStuck (stuckHead p id g)) := by
  have gives := giveUpCan_of_can (p := p) (r := r)
    (s := sendReport (.headStuck p id s.line.state) (setCrimp p { s.crimp[p] with watch := none } s)) (by simpa using can)
  exact congrArg (fun g : State =>
    handLimit (tableFull g || g.heads[p].state = .retired || g.heads[p].state = .reseating)
      (takeHaltCause .headStuck (stuckHead p id g))) gives

/-- HEAD_STUCK takes the permit off the line, so the RETIREMENT_LIMIT that R99 may hand next moves nothing. -/
theorem handLimit_takeHaltCause (full : Bool) (cause : HaltCause) (s : State) :
    handLimit full (takeHaltCause cause s) = takeHaltCause cause s :=
  handLimit_of_no_permit (takeHaltCause_permit_lots cause s).1

theorem dischargeCrossing_of_stuck (watch : s.crimp[p].watch = some id) (can : s.pockets[p].content = .can r) :
    dischargeCrossing p s = takeHaltCause .headStuck (stuckTold p id r s) := by
  have stuck : dischargeCrossing p s = headStuckAt p id s := by
    unfold dischargeCrossing
    rw [watch]
  rw [stuck, headStuckAt_of_can can, handLimit_takeHaltCause, stuckTold]

/-- Settles O27: the crossing by watch and line state; with the watch open the head by its state, then the line. -/
theorem dischargeHandsOnGivesUpOrFindsTheBellStuck : Obligations.DischargeHandsOnGivesUpOrFindsTheBellStuck := by
  unfold Obligations.DischargeHandsOnGivesUpOrFindsTheBellStuck
  refine ⟨fun p s shut => ⟨fun r running can => ?_, fun running unknown => ?_, fun running empty => ?_,
    fun r idle can => ?_, fun idle bare => ?_⟩, fun p id r s watch can => ?_⟩
  · rw [dischargeCrossing_of_running shut running, handToTrail, can]
    rfl
  · rw [dischargeCrossing_of_running shut running, handToTrail, unknown]
    rfl
  · rw [dischargeCrossing_of_running shut running, handToTrail, empty]
  · rw [dischargeCrossing_of_not_running shut idle, giveUpCan_of_can can]
  · rw [dischargeCrossing_of_not_running shut idle, giveUpCan_of_no_can bare]
  obtain ⟨trail, line, standstill, cleared, shut⟩ := stuckTold_keeps p id r s
  obtain ⟨live, retired⟩ := stuckTold_by_headState p id r s
  obtain ⟨-, current, -⟩ := takeHaltCause_permit_lots .headStuck (stuckTold p id r s)
  have spared : Spares p (stuckTold p id r s) (takeHaltCause .headStuck (stuckTold p id r s)) :=
    takeHaltCause_spares (Spares.refl p _)
  have head := spared.head cleared
  rw [dischargeCrossing_of_stuck watch can]
  dsimp only
  rw [spared.retirements, head]
  refine ⟨(handLimit_takeHaltCause _ _ _).symm, spared.watch.trans shut, spared.pocket cleared,
    spared.trail.trans trail, fun permit => ?halts, fun l closing opened below => ?lot, live, retired⟩
  case halts =>
    obtain ⟨after, first, -⟩ := enterHalt_line_lots .headStuck (stuckTold p id r s)
    rw [standstill] at after
    rw [takeHaltCause_of_permit (line ▸ permit)]
    exact ⟨after, first⟩
  case lot =>
    have same := (openLot_of_no_closing closing opened).2
    exact openLot_of_current (current.trans (stuckTold_current closing opened below)) same

end Sys2Proof.Machine
end

section
/-! SUPPORT. The gas channel unit: an entry of the channel table read back after a write, the gas unit kept by a change
of the line state (R153) and by a drain cause (R157, R158), and what a channel is as it enters FAULT (R62, R68, R69). -/

namespace Sys2Proof.Machine

variable {s : State} {c : ChannelNo}

/-! ### One channel read back -/

theorem getElem_setChannel_self (c : ChannelNo) (v : Channel) (s : State) : (setChannel c v s).gas.channels[c] = v :=
  Vector.getElem_set_self c.isLt

theorem getElem_setChannel_ne {d : ChannelNo} (h : d ≠ c) (v : Channel) (s : State) :
    (setChannel d v s).gas.channels[c] = s.gas.channels[c] :=
  Vector.getElem_set_ne d.isLt c.isLt (Fin.val_ne_of_ne h)

/-! ### Changes of the line state leave the gas unit -/

theorem interruptCalibration_gas (p : PocketNo) (s : State) : (interruptCalibration p s).gas = s.gas := by
  unfold interruptCalibration
  split
  · rw [interruptHead_eq]
    rfl
  · rfl

theorem forHeads_gas {f : PocketNo → State → State} (each : ∀ p s, (f p s).gas = s.gas) (s : State) :
    (forHeads f s).gas = s.gas :=
  List.foldlRecOn (motive := fun t => t.gas = s.gas) _ _ rfl fun t same p _ => (each p t).trans same

theorem changeLine_gas {also : State → State} (keeps : ∀ t, (also t).gas = t.gas) (after : LineState)
    (drain : Option DrainCause) (event : LineEvent) (s : State) :
    (changeLine after drain event also s).gas = s.gas := by
  unfold changeLine
  rw [sendReport_gas, handOffLine_eq]
  exact keeps _

theorem checkDrain_gas (s : State) : (checkDrain s).gas = s.gas := by
  unfold checkDrain
  split
  · exact changeLine_gas (forHeads_gas interruptCalibration_gas) _ _ _ s
  · rfl

theorem takeDrainCause_gas (cause : DrainCause) (s : State) : (takeDrainCause cause s).gas = s.gas := by
  unfold takeDrainCause
  split
  · exact (checkDrain_gas _).trans (changeLine_gas (fun _ => rfl) _ _ _ s)
  · exact changeLine_gas (fun _ => rfl) _ _ _ s
  · rfl

@[simp] theorem checkInService_gas (s : State) : (checkInService s).gas = s.gas := by
  unfold checkInService
  split
  · exact takeDrainCause_gas _ s
  · rfl

/-! ### A channel that enters FAULT -/

/-- The tare that starts is of a channel in the queue (R62). -/
theorem getElem_tareStart_of_not_mem (out : c ∉ s.gas.tareQueue) :
    (tareStart s).gas.channels[c] = s.gas.channels[c] := by
  unfold tareStart
  split
  · rename_i d rest queue
    have other : d ≠ c := fun same => out (by simp [queue, same])
    split
    · rfl
    · exact getElem_setChannel_ne other _ s
  · rfl

/-- A channel's own record at its entry to FAULT. -/
def faultedChannel (cause : ChannelFault) (ch : Channel) : Channel :=
  { ch with state := .fault, faultCause := some cause, offPending := false, tareTimer := none }

@[simp] theorem reportChannel_gas (c : ChannelNo) (s : State) : (reportChannel c s).gas = s.gas := sendReport_gas _ _

/-- The channel in FAULT and out of the tare queue, before its report and before the queue moves up. -/
def faultTaken (c : ChannelNo) (cause : ChannelFault) (s : State) : State :=
  leaveTareQueue c (setChannel c (faultedChannel cause s.gas.channels[c]) s)

theorem enterFault_eq (c : ChannelNo) (cause : ChannelFault) (s : State) :
    enterFault c cause s = checkInService (tareStart (reportChannel c (faultTaken c cause s))) := rfl

/-- R62: a channel that enters FAULT has left the tare queue before the queue moves up, so it is not the one that enters
TARE. -/
theorem getElem_enterFault_self {cause : ChannelFault} (once : s.gas.tareQueue.Nodup) :
    (enterFault c cause s).gas.channels[c] = faultedChannel cause s.gas.channels[c] := by
  have out : c ∉ (reportChannel c (faultTaken c cause s)).gas.tareQueue := by
    rw [reportChannel_gas]
    exact once.not_mem_erase
  rw [enterFault_eq, checkInService_gas, getElem_tareStart_of_not_mem out, reportChannel_gas]
  exact getElem_setChannel_self c _ s

end Sys2Proof.Machine
end

section
/-! PROOF. R50, R56, R64: a mass increment in each channel state. -/

namespace Sys2Proof.Machine

variable {s : State} {c : ChannelNo} {mg : Int}

/-! ### CHARGING and SETTLING: the accumulated mass (R50, R56) -/

theorem thresholdMet_iff {ch : Channel} {g : Grant} (granted : ch.grant = some g) :
    thresholdMet ch = true ↔ (g.target : Int) - ch.preact ≤ ch.accumulated := by
  unfold thresholdMet
  rw [granted]
  exact decide_eq_true_iff

/-- The channel with the increment in its mass, which the close threshold is then compared with. -/
theorem takeIncrement_of_charging (state : s.gas.channels[c].state = .charging) :
    let added := addMass mg s.gas.channels[c]
    takeIncrement c mg s =
      if thresholdMet added then closeCharge c .target (setChannel c added s) else setChannel c added s := by
  unfold takeIncrement
  rw [state]
  dsimp only [modifyChannel]
  rw [getElem_setChannel_self]

theorem takeIncrement_of_settling (state : s.gas.channels[c].state = .settling) :
    takeIncrement c mg s = setChannel c (addMass mg s.gas.channels[c]) s := by
  unfold takeIncrement
  rw [state]
  rfl

/-! ### TARE_WAIT and TARE: the standing reading (R64) -/

theorem takeIncrement_of_tare (state : s.gas.channels[c].state = .tareWait ∨ s.gas.channels[c].state = .tare) :
    takeIncrement c mg s = setChannel c (addStanding mg s.gas.channels[c]) s := by
  unfold takeIncrement
  rcases state with state | state <;> rw [state] <;> rfl

/-! ### IDLE: the standing reading and the creep window (R64) -/

theorem creepSum_append_singleton (w : List (Nat × Int)) (now : Nat) (mg : Int) :
    creepSum (w ++ [(now, mg)]) = creepSum w + mg := by
  simp [creepSum]

/-- An IDLE channel with an increment taken now, before its creep is judged. -/
def withCreep (now : Nat) (mg : Int) (ch : Channel) : Channel :=
  { addStanding mg ch with creepWindow := ch.creepWindow ++ [(now, mg)] }

theorem takeIncrement_of_idle (state : s.gas.channels[c].state = .idle) :
    takeIncrement c mg s = judgeCreep c (setChannel c (withCreep s.timebase mg s.gas.channels[c]) s) := by
  unfold takeIncrement
  rw [state]
  rfl

theorem takeIncrement_of_idle_within (state : s.gas.channels[c].state = .idle)
    (within : creepSum s.gas.channels[c].creepWindow + mg ≤ 20) :
    takeIncrement c mg s = setChannel c (withCreep s.timebase mg s.gas.channels[c]) s := by
  rw [takeIncrement_of_idle state]
  refine if_neg fun creeps => ?_
  rw [getElem_setChannel_self, withCreep, creepSum_append_singleton] at creeps
  exact absurd creeps.2 (Int.not_lt.mpr within)

theorem takeIncrement_of_idle_above (state : s.gas.channels[c].state = .idle)
    (above : 20 < creepSum s.gas.channels[c].creepWindow + mg) :
    takeIncrement c mg s = enterFault c .creep (setChannel c (withCreep s.timebase mg s.gas.channels[c]) s) := by
  rw [takeIncrement_of_idle state]
  refine if_pos ?_
  rw [getElem_setChannel_self, withCreep, creepSum_append_singleton]
  exact ⟨state, above⟩

/-! ### FAULT and OFF: discarded -/

theorem takeIncrement_of_out_of_service (state : s.gas.channels[c].state = .fault ∨ s.gas.channels[c].state = .off) :
    takeIncrement c mg s = s := by
  unfold takeIncrement
  rcases state with state | state <;> rw [state]

/-- A METER_INCREMENT is taken after its elapsed time, and always completes. -/
theorem exec_meterIncrement (e : Nat) (c : ChannelNo) (mg : Int) (s : State) :
    exec (.meterIncrement e c mg) s = .next (finish (takeIncrement c mg (elapse e s))) := rfl

/-- Settles O15: the state of the channel decides what the increment joins; in CHARGING the close threshold, and in IDLE
the creep sum, decide whether it does more. -/
theorem meterIncrementActsByChannelState : Obligations.MeterIncrementActsByChannelState := by
  unfold Obligations.MeterIncrementActsByChannelState
  intro e c mg s u ch mass standing
  rw [exec_meterIncrement]
  refine ⟨fun g charging granted below => ?below, fun g charging granted met => ?met, fun settling => ?settling,
    fun taring => ?taring, fun idle within => ?within, fun idle above once => ?above, fun out => ?out⟩
  case below =>
    have unmet : ¬ thresholdMet (addMass mg ch) = true := fun met =>
      absurd ((thresholdMet_iff (ch := addMass mg ch) granted).mp met) (Int.not_le.mpr below)
    rw [takeIncrement_of_charging charging, if_neg unmet]
    rfl
  case met =>
    rw [takeIncrement_of_charging charging, if_pos ((thresholdMet_iff (ch := addMass mg ch) granted).mpr met)]
    rfl
  case settling =>
    rw [takeIncrement_of_settling settling]
    rfl
  case taring =>
    rw [takeIncrement_of_tare taring]
    rfl
  case within =>
    rw [takeIncrement_of_idle_within idle within]
    rfl
  case above =>
    refine ⟨_, rfl, ?_⟩
    rw [takeIncrement_of_idle_above idle above, finish_gas, getElem_enterFault_self (s := setChannel c _ u) once,
      getElem_setChannel_self]
    exact ⟨rfl, rfl, rfl⟩
  case out => rw [takeIncrement_of_out_of_service out]

end Sys2Proof.Machine
end

section
/-! PROOF. R17, R44, R70, R86, R107, R130, R131, R139, R151, R170, R184: the power-on values, block by block. -/

namespace Sys2Proof.Machine

/-! ### The tables at power-on, entry by entry -/

/-- R44. -/
theorem getElem_pockets_atPowerOn (inputs : PlantInputs) (p : PocketNo) :
    (State.atPowerOn inputs).pockets[p] = Pocket.initial :=
  Vector.getElem_replicate p.isLt

/-- R86. -/
theorem getElem_crimp_atPowerOn (inputs : PlantInputs) (p : PocketNo) :
    (State.atPowerOn inputs).crimp[p] = CrimpHead.initial :=
  Vector.getElem_replicate p.isLt

/-- R107. -/
theorem getElem_heads_atPowerOn (inputs : PlantInputs) (p : PocketNo) :
    (State.atPowerOn inputs).heads[p] = Head.initial :=
  Vector.getElem_replicate p.isLt

/-- No selector valve is open (Table 3.6). -/
theorem getElem_selectors_atPowerOn (inputs : PlantInputs) (p : PocketNo) :
    (State.atPowerOn inputs).gas.selectors[p] = none :=
  Vector.getElem_replicate p.isLt

/-- R131, R136. -/
theorem getElem_slots_atPowerOn (inputs : PlantInputs) (i : SlotNo) :
    (State.atPowerOn inputs).recipes.slots[i] = { generation := 0, content := none } :=
  Vector.getElem_replicate i.isLt

/-- A channel at power-on: channel 0, at the head of the tare queue, has entered TARE, and the others wait (R70, R62). -/
def channelAtPowerOn (c : ChannelNo) : Channel :=
  if c = 0 then { Channel.initial with state := .tare, tareTimer := some 40 } else Channel.initial

theorem getElem_channels_atPowerOn (inputs : PlantInputs) (c : ChannelNo) :
    (State.atPowerOn inputs).gas.channels[c] = channelAtPowerOn c := by
  unfold channelAtPowerOn
  split
  next first =>
    subst first
    exact Vector.getElem_set_self (by decide)
  next waits =>
    have apart : 0 ≠ c.val := fun same => waits (Fin.ext same.symm)
    exact (Vector.getElem_set_ne (by decide) c.isLt apart).trans (Vector.getElem_replicate c.isLt)

/-- Table 3.6 (R70): channel 0 differs from the others in its state, and in no mass, offset or valve. -/
theorem channelAtPowerOn_values (c : ChannelNo) :
    (channelAtPowerOn c).state = (if c = 0 then .tare else .tareWait) ∧ (channelAtPowerOn c).preact = 0
      ∧ (channelAtPowerOn c).zeroOffset = 0 ∧ (channelAtPowerOn c).standing = 0
      ∧ (channelAtPowerOn c).accumulated = 0 ∧ (channelAtPowerOn c).valveOpen = false := by
  unfold channelAtPowerOn
  split <;> exact ⟨rfl, rfl, rfl, rfl, rfl, rfl⟩

/-! ### The report on the line at power-on -/

/-- R184, R189: the frame on the line is that of the INTERLOCK_SET report, with nothing dropped. -/
theorem transmitter_linkInitial :
    LinkController.initial.linePort.transmitter
      = some { what := .report, frame := reportFrame (.interlockSet .powerOn .stopped) 0 } := rfl

/-- Settles O7: the tables are read entry by entry, and every other field is its block's own power-on value. -/
theorem resetHoldsTheSpecsValues : Obligations.ResetHoldsTheSpecsValues := by
  unfold Obligations.ResetHoldsTheSpecsValues
  intro s
  have pockets : ∀ p : PocketNo, s.pockets[p] = Pocket.initial := getElem_pockets_atPowerOn _
  have channels : ∀ c : ChannelNo, s.gas.channels[c] = channelAtPowerOn c := getElem_channels_atPowerOn _
  have selectors : ∀ p : PocketNo, s.gas.selectors[p] = none := getElem_selectors_atPowerOn _
  have crimp : ∀ p : PocketNo, s.crimp[p] = CrimpHead.initial := getElem_crimp_atPowerOn _
  have heads : ∀ p : PocketNo, s.heads[p] = Head.initial := getElem_heads_atPowerOn _
  have slots : ∀ i : SlotNo, s.recipes.slots[i] = { generation := 0, content := none } := getElem_slots_atPowerOn _
  exact ⟨
    -- position counter (R17)
    rfl, rfl, rfl, rfl, rfl, rfl, rfl, rfl, rfl, rfl, rfl, rfl, rfl,
    -- pockets and infeed gate (R44)
    pockets, rfl,
    -- gas channels, tare queue, waiting list, supply, selectors (R70)
    fun c => channels c ▸ channelAtPowerOn_values c, rfl, rfl, rfl, rfl, selectors,
    -- crimp heads (R86), head records and retirement table (R107)
    crimp, fun p => heads p ▸ ⟨rfl, rfl, rfl, rfl, rfl, rfl, rfl, rfl⟩, rfl,
    -- trail and trace buffer (R130)
    rfl, rfl, rfl, rfl, rfl, rfl,
    -- recipe slots and reservations (R131, R136)
    slots, rfl, rfl,
    -- lots (R139, R151)
    rfl, rfl, rfl, rfl, rfl,
    -- line control (R170)
    rfl, rfl, rfl, rfl, rfl, rfl, rfl, rfl, rfl, rfl,
    -- configuration (Table 8.6)
    rfl,
    -- link controller (R184)
    rfl, rfl, rfl, rfl, rfl, rfl, rfl, rfl, transmitter_linkInitial⟩

end Sys2Proof.Machine
end

section
/-! PROOF. R112 to R115: a weigher record discarded, matched to the oldest eligible entry, or an orphan; what the
matched entry stores and how its weight is judged. -/

namespace Sys2Proof.Machine

/-! ### A value against its band -/

section Band

variable {value low high : Int} {below above : Reason}

theorem bandReasons_of_lt (h : value < low) : bandReasons value low high below above = [below] := if_pos h

theorem bandReasons_of_gt (reaches : low ≤ value) (h : high < value) :
    bandReasons value low high below above = [above] :=
  (if_neg (Int.not_lt.mpr reaches)).trans (if_pos h)

theorem bandReasons_of_within (reaches : low ≤ value) (h : value ≤ high) :
    bandReasons value low high below above = [] :=
  (if_neg (Int.not_lt.mpr reaches)).trans (if_neg (Int.not_lt.mpr h))

end Band

/-- R113: a reading is judged by its band. -/
theorem weightReasons_of_reading (w : Word16) (low high : Nat) :
    weightReasons (some w) (some (low, high)) = bandReasons w.toNat low high .weightLow .weightHigh := rfl

/-! ### The matched entry (R113, R114) -/

variable {reading : Option Word16} {s : State}

/-- R112, R114: the record is stored, late where the gate has been commanded for the entry. -/
theorem matchWeight_weight (reading : Option Word16) (s : State) (e : TrailEntry) :
    (matchWeight reading s e).weight = some { reading := reading, late := e.lane.isSome } := by
  unfold matchWeight
  dsimp only
  split
  · rfl
  · split <;> rfl

/-- R114: a late record adds no reason. -/
theorem matchWeight_kind_of_commanded {e : TrailEntry} (commanded : e.lane ≠ none) :
    (matchWeight reading s e).kind = e.kind := by
  unfold matchWeight
  rw [if_pos (Option.isSome_iff_ne_none.mpr commanded)]

/-- R113: a PURGE entry takes no reason from its weight. -/
theorem matchWeight_kind_of_purge {e : TrailEntry} {p : PocketNo} {codes : Reasons} (purge : e.kind = .purge p codes) :
    (matchWeight reading s e).kind = e.kind := by
  unfold matchWeight
  dsimp only
  split
  · rfl
  · rw [purge]

/-- R113: a can not yet commanded takes the reasons of its recipe's weight band. -/
theorem matchWeight_kind_of_real {e : TrailEntry} {r : CanRecord} (real : e.kind = .real r) (waiting : e.lane = none) :
    (matchWeight reading s e).kind = .real (withReasons (weightReasons reading (weightBandOf r s)) r) := by
  unfold matchWeight
  rw [waiting]
  dsimp only [Option.isSome]
  rw [if_neg Bool.false_ne_true, real]

/-! ### The record's entry (R112, R115) -/

theorem takeWeight_of_no_weigher (off : s.config.weigherDistance = 0) : takeWeight reading s = s := if_pos off

theorem takeWeight_of_matched {e : TrailEntry} (on : s.config.weigherDistance ≠ 0)
    (oldest : s.trail.entries.find? (eligible s.position.pitchCounter s.config.weigherDistance) = some e) :
    takeWeight reading s =
      { s with trail := { s.trail with
        entries := updateEntry e.dischargePitch (matchWeight reading s) s.trail.entries } } := by
  unfold takeWeight
  rw [if_neg on]
  dsimp only
  rw [oldest]

/-- R115: the report goes out with the entries counted, and every entry is marked. -/
theorem takeWeight_of_orphan (on : s.config.weigherDistance ≠ 0)
    (none_eligible : s.trail.entries.find? (eligible s.position.pitchCounter s.config.weigherDistance) = none) :
    takeWeight reading s =
      { sendReport (.orphanWeight s.position.pitchCounter reading s.trail.entries.length) s with
        trail := { s.trail with entries := s.trail.entries.map (markEntry .trackLost) } } := by
  unfold takeWeight
  rw [if_neg on]
  dsimp only
  rw [none_eligible]
  dsimp only
  rw [sendReport_trail]

/-- A WEIGHER_RECORD is taken at once, and always completes. -/
theorem exec_weigherRecord (reading : Option Word16) (s : State) :
    exec (.weigherRecord reading) s = .next (finish (takeWeight reading s)) := rfl

/-- Settles O29: W at 0, an eligible entry and none are the three cases of the record; the lane, the kind and the weight
band of the matched entry decide the reason it takes. -/
theorem weigherRecordGoesToTheOldestEligibleEntry : Obligations.WeigherRecordGoesToTheOldestEligibleEntry := by
  unfold Obligations.WeigherRecordGoesToTheOldestEligibleEntry
  intro reading s passed
  rw [exec_weigherRecord]
  refine ⟨fun off => ?discarded, fun on none_passed => ?orphan,
    fun older e younger on split older_not e_passed => ?matched⟩
  case discarded => rw [takeWeight_of_no_weigher off]
  case orphan =>
    have none_eligible : s.trail.entries.find? (eligible s.position.pitchCounter s.config.weigherDistance) = none :=
      List.find?_eq_none.mpr fun e mem => Bool.eq_false_iff.mp (none_passed e mem)
    rw [takeWeight_of_orphan on none_eligible]
  case matched =>
    have oldest : s.trail.entries.find? (eligible s.position.pitchCounter s.config.weigherDistance) = some e :=
      List.find?_eq_some_iff_append.mpr
        ⟨e_passed, older, younger, split, fun x mem => (Bool.not_eq_true' _).mpr (older_not x mem)⟩
    rw [takeWeight_of_matched on oldest]
    refine ⟨rfl, matchWeight_weight reading s e, matchWeight_kind_of_commanded,
      fun _ _ purge => matchWeight_kind_of_purge purge, ?_⟩
    intro r real waiting band judged
    have kind : (matchWeight reading s e).kind = .real (withReasons (weightReasons reading band) r) :=
      matchWeight_kind_of_real real waiting
    rw [kind]
    refine ⟨fun unbanded => ?unbanded, fun low high banded => ?banded⟩
    case unbanded => rw [unbanded]; rfl
    case banded =>
      rw [banded]
      refine ⟨fun unread => ?missing, fun w read => ?weighed⟩
      case missing => rw [unread]; rfl
      case weighed =>
        rw [read, weightReasons_of_reading]
        refine ⟨fun light => ?light, fun reaches heavy => ?heavy, fun reaches holds => ?within⟩
        case light => rw [bandReasons_of_lt (Int.ofNat_lt.mpr light)]; rfl
        case heavy => rw [bandReasons_of_gt (Int.ofNat_le.mpr reaches) (Int.ofNat_lt.mpr heavy)]; rfl
        case within => rw [bandReasons_of_within (Int.ofNat_le.mpr reaches) (Int.ofNat_le.mpr holds)]; rfl

end Sys2Proof.Machine
end

section
/-! PROOF. R124, R188: how many bytes a trace record takes, which records a TAKE_TRACE reply holds, and the request on
either port. -/

namespace Sys2Proof.Machine

/-! ### The size of a trace record (Table 10.11) -/

theorem length_optField_le {α : Type} {write : α → List Byte} {n : Nat} (each : ∀ a, (write a).length ≤ n)
    (o : Option α) : (optField write o).length ≤ n := by
  cases o with
  | none => exact Nat.zero_le n
  | some a => exact each a

theorem length_reasonCodes_le (rs : Reasons) : (reasonCodes rs).length ≤ 21 :=
  (List.length_filterMap_le _ _).trans_eq List.length_range

theorem length_traceFlags (t : TraceRecord) : (traceFlags t).length = 2 := by
  unfold traceFlags
  split <;> rfl

/-- The longest record is that of a can with every optional field and all 21 reasons. -/
theorem length_traceBytes_le (t : TraceRecord) : (traceBytes t).length ≤ 59 := by
  have codes := length_reasonCodes_le (entryReasons t.kind)
  have flags := length_traceFlags t
  have weight := length_optField_le (fun w => (length_le16 w).le) (weightReading t.weight)
  unfold traceBytes
  simp only [List.length_append, List.length_cons, List.length_nil, List.length_map, length_le32, flags]
  split
  case h_1 r _ =>
    have channel := length_optField_le (write := fun c : Nat => [n8 c]) (n := 1) (fun _ => le_rfl)
      (r.channel : Option Nat)
    have dose := length_optField_le (write := i16) (n := 2) (fun _ => le_rfl) r.dose
    have height := length_optField_le (write := i16) (n := 2) (fun _ => le_rfl) r.height
    have force := length_optField_le (write := n16) (n := 2) (fun _ => le_rfl) r.peakForce
    have phase := length_optField_le (write := n16) (n := 2) (fun _ => le_rfl) r.jawClosePhase
    have serial : (n32 r.serial).length = 4 := rfl
    simp only [List.length_append, List.length_cons, List.length_nil, length_le16, length_le32, serial]
    omega
  case h_2 =>
    rw [List.length_nil]
    omega

/-! ### The records a reply holds (R124) -/

section Taken

variable (n room : Nat) (l : List TraceRecord)

/-- They are the oldest, in their order. -/
theorem takenRecords_isPrefix : takenRecords n room l <+: l := by
  fun_induction takenRecords n room l with
  | case1 => exact List.nil_prefix
  | case2 => exact List.nil_prefix
  | case3 _ r rest n _ ih => exact (List.prefix_cons_inj r).mpr ih
  | case4 => exact List.nil_prefix

theorem length_takenRecords_le : (takenRecords n room l).length ≤ n := by
  fun_induction takenRecords n room l with
  | case1 => exact Nat.zero_le _
  | case2 => exact Nat.zero_le _
  | case3 _ r rest n _ ih => exact Nat.succ_le_succ ih
  | case4 => exact Nat.zero_le _

theorem bytes_takenRecords_le : ((takenRecords n room l).flatMap traceBytes).length ≤ room := by
  fun_induction takenRecords n room l with
  | case1 => exact Nat.zero_le _
  | case2 => exact Nat.zero_le _
  | case3 room r rest n fits ih =>
    rw [List.flatMap_cons, List.length_append]
    omega
  | case4 => exact Nat.zero_le _

/-- A record left behind was not asked for, or does not fit behind those taken. -/
theorem takenRecords_maximal {r : TraceRecord} {more : List TraceRecord}
    (left : l.drop (takenRecords n room l).length = r :: more) :
    (takenRecords n room l).length = n ∨ room < ((takenRecords n room l ++ [r]).flatMap traceBytes).length := by
  fun_induction takenRecords n room l with
  | case1 => exact absurd left (List.cons_ne_nil r more).symm
  | case2 => exact .inl rfl
  | case3 room q rest n fits ih =>
    refine (ih left).imp (congrArg Nat.succ) fun exceeds => ?_
    rw [List.cons_append, List.flatMap_cons, List.length_append]
    omega
  | case4 room q rest n tooLong =>
    obtain ⟨rfl, -⟩ := List.cons.inj left
    refine .inr ?_
    simpa using tooLong

/-- As many records as the room holds at their longest are taken, of those asked for and held. -/
theorem min_le_length_takenRecords {k : Nat} (roomy : 59 * k ≤ room) :
    min k (min n l.length) ≤ (takenRecords n room l).length := by
  fun_induction takenRecords n room l generalizing k with
  | case1 => simp
  | case2 => simp
  | case3 room r rest n fits ih =>
    have longest := length_traceBytes_le r
    have others := ih (k := k - 1) (by omega)
    rw [List.length_cons, List.length_cons]
    omega
  | case4 room r rest n tooLong =>
    have longest := length_traceBytes_le r
    have noRoom : k = 0 := by omega
    simp [noRoom]

end Taken

/-! ### The request (R124, Table 9.3) -/

/-- The frame of a TAKE_TRACE request. -/
def takeTraceFrame (tag n : Byte) : Frame := { kind := kindTakeTrace, tag := tag, body := [n] }

section Request

variable {tag n : Byte} {s : State}

theorem exec_takeTrace_service (free : freePort .service s = true) :
    exec (.takeTrace .service tag n) s
      = answered .service (takeTraceFrame tag n) (.refused .notOnThisPort 0)
          (atOwner .service (takeTraceFrame tag n) s) :=
  receiveFrame_of_free .service (takeTraceFrame tag n) s (by decide : 1 ≤ 240) free

theorem exec_takeTrace_line (free : freePort .line s = true) :
    let handled := ownTakeTrace n (atOwner .line (takeTraceFrame tag n) s)
    exec (.takeTrace .line tag n) s = answered .line (takeTraceFrame tag n) handled.2 handled.1 :=
  receiveFrame_of_free .line (takeTraceFrame tag n) s (by decide : 1 ≤ 240) free

theorem ownTakeTrace_of_bad (bad : n.toNat = 0 ∨ 8 < n.toNat) : ownTakeTrace n s = refuse .badValue 1 s := if_pos bad

theorem ownTakeTrace_of_good (some_asked : n.toNat ≠ 0) (at_most : n.toNat ≤ 8) :
    let taken := takenRecords n.toNat 239 s.trace.records
    ownTakeTrace n s = accept (fun _ => takeTraceBody taken)
      { s with trace := { s.trace with records := s.trace.records.drop taken.length } } :=
  if_neg (not_or.mpr ⟨some_asked, Nat.not_lt.mpr at_most⟩)

end Request

/-- Settles O53: with a good count the owner takes `takenRecords`, the front of the buffer as far as the count and the
239 bytes behind the reply's own count byte allow. -/
theorem takeTraceDeliversAndDeletesTheOldest : Obligations.TakeTraceDeliversAndDeletesTheOldest := by
  unfold Obligations.TakeTraceDeliversAndDeletesTheOldest
  intro tag n s free_line free_service f
  refine ⟨exec_takeTrace_service free_service, fun bad => ?bad, fun some_asked at_most => ?good⟩
  case bad => rw [exec_takeTrace_line free_line, ownTakeTrace_of_bad bad]; rfl
  case good =>
    let taken := takenRecords n.toNat 239 s.trace.records
    have within : (taken.flatMap traceBytes).length ≤ 239 := bytes_takenRecords_le _ _ _
    refine ⟨taken, s.trace.records.drop taken.length, List.prefix_append_drop (takenRecords_isPrefix _ _ _),
      length_takenRecords_le _ _ _, min_le_length_takenRecords _ _ _ (by decide), Nat.succ_le_succ within, ?taken,
      fun r more left => ?more⟩
    case taken => rw [exec_takeTrace_line free_line, ownTakeTrace_of_good some_asked at_most]; rfl
    case more => exact (takenRecords_maximal _ _ _ left).imp_right Nat.succ_lt_succ

end Sys2Proof.Machine
end

section
/-! PROOF. R156: what STOP_LINE IMMEDIATE and CONTROLLED do in each line state, and the request on either port. -/

namespace Sys2Proof.Machine

section StopLine

variable {port : Port} {tag mode : Byte} {s : State}

/-! ### The effect by line state -/

/-- The halt cause that STOP_LINE IMMEDIATE hands to line control from a port. -/
def stopCause : Port → HaltCause
  | .line => .hostStop
  | .service => .serviceStop

theorem stopImmediate_of_permit (permit : permitIn s.line.state = true) :
    stopImmediate port s = takeHaltCause (stopCause port) s := by
  unfold stopImmediate
  split
  case h_1 halt => simp [halt, permitIn] at permit
  case h_2 stopped => simp [stopped, permitIn] at permit
  case h_3 => cases port <;> rfl

theorem stopImmediate_of_no_permit (permit : permitIn s.line.state = false) : stopImmediate port s = s := by
  unfold stopImmediate
  split
  case h_3 not_halt not_stopped =>
    cases state : s.line.state with
    | halt => exact absurd state not_halt
    | stopped => exact absurd state not_stopped
    | starting | run | drain => simp [state, permitIn] at permit
  all_goals rfl

theorem stopControlled_of_starting (starting : s.line.state = .starting) :
    stopControlled s = changeLine .stopped none .stopControlled id s := by
  unfold stopControlled
  rw [starting]

theorem stopControlled_of_run (run : s.line.state = .run) : stopControlled s = takeDrainCause .hostStop s := by
  unfold stopControlled
  rw [run]

theorem stopControlled_of_ending (ending : s.line.state = .drain ∨ s.line.state = .halt ∨ s.line.state = .stopped) :
    stopControlled s = s := by
  unfold stopControlled
  rcases ending with state | state | state <;> rw [state]

/-- The run permit after a change of line state is that of the state entered (R153). -/
theorem changeLine_state_permit (after : LineState) (drain : Option DrainCause) (event : LineEvent) (s : State) :
    let t := changeLine after drain event id s
    t.line.state = after ∧ t.line.runPermit = permitIn after := by
  dsimp only
  rw [changeLine_eq]
  exact ⟨rfl, rfl⟩

/-! ### The request on either port (Table 9.3) -/

/-- The frame of a STOP_LINE request. -/
def stopLineFrame (tag mode : Byte) : Frame := { kind := kindStopLine, tag := tag, body := [mode] }

/-- Both ports carry STOP_LINE, so on a free port it reaches its owner. -/
theorem exec_stopLine (free : freePort port s = true) :
    let handled := ownStopLine port mode (atOwner port (stopLineFrame tag mode) s)
    exec (.stopLine port tag mode) s = answered port (stopLineFrame tag mode) handled.2 handled.1 := by
  have taken := receiveFrame_of_free port (stopLineFrame tag mode) s (by decide : 1 ≤ 240) free
  cases port <;> exact taken

theorem ownStopLine_of_bad_mode (not_controlled : mode ≠ 1) (not_immediate : mode ≠ 2) :
    ownStopLine port mode s = refuse .badValue 1 s := by
  have none_of : stopModeOf mode = none := (if_neg not_controlled).trans (if_neg not_immediate)
  unfold ownStopLine
  rw [none_of]

theorem exec_stopLine_immediate (free : freePort port s = true) :
    let t := stopImmediate port (atOwner port (stopLineFrame tag 2) s)
    exec (.stopLine port tag 2) s
      = answered port (stopLineFrame tag 2) (.accepted [n8 (codeLineState t.line.state)]) t := by
  have taken := exec_stopLine (tag := tag) (mode := 2) free
  cases port <;> exact taken

theorem exec_stopLine_controlled (free : freePort .line s = true) :
    let t := stopControlled (atOwner .line (stopLineFrame tag 1) s)
    exec (.stopLine .line tag 1) s
      = answered .line (stopLineFrame tag 1) (.accepted [n8 (codeLineState t.line.state)]) t :=
  exec_stopLine free

/-- With the run permit on, IMMEDIATE hands the port's halt cause to line control. -/
theorem exec_stopLine_immediate_of_permit (free : freePort port s = true)
    (running : s.line.state = .starting ∨ s.line.state = .run ∨ s.line.state = .drain) :
    let t := takeHaltCause (stopCause port) (atOwner port (stopLineFrame tag 2) s)
    exec (.stopLine port tag 2) s
      = answered port (stopLineFrame tag 2) (.accepted [n8 (codeLineState t.line.state)]) t := by
  have permit : permitIn (atOwner port (stopLineFrame tag 2) s).line.state = true := by
    rw [atOwner_lineState]
    rcases running with state | state | state <;> rw [state] <;> rfl
  dsimp only
  rw [exec_stopLine_immediate free, stopImmediate_of_permit permit]

/-- With the run permit off, IMMEDIATE changes nothing. -/
theorem exec_stopLine_immediate_of_no_permit (free : freePort port s = true)
    (resting : s.line.state = .halt ∨ s.line.state = .stopped) :
    let u := atOwner port (stopLineFrame tag 2) s
    exec (.stopLine port tag 2) s
      = answered port (stopLineFrame tag 2) (.accepted [n8 (codeLineState u.line.state)]) u := by
  have permit : permitIn (atOwner port (stopLineFrame tag 2) s).line.state = false := by
    rw [atOwner_lineState]
    rcases resting with state | state <;> rw [state] <;> rfl
  dsimp only
  rw [exec_stopLine_immediate free, stopImmediate_of_no_permit permit]

end StopLine

/-- Settles O45: the owner sees the line state of the arrival, and each line of R156's table is one equation of
`stopImmediate` or `stopControlled`. -/
theorem stopLineActsByModeAndLineState : Obligations.StopLineActsByModeAndLineState := by
  unfold Obligations.StopLineActsByModeAndLineState
  intro port tag s free f u done
  have owner_state (mode : Byte) : (u mode).line.state = s.line.state := atOwner_lineState port (f mode) s
  refine ⟨exec_stopLine_immediate_of_no_permit free, ?hostStop, ?serviceStop, ?ending, ?run, ?starting, ?service,
    fun mode not_controlled not_immediate => ?badMode⟩
  case hostStop => rintro running rfl; exact exec_stopLine_immediate_of_permit free running
  case serviceStop => rintro running rfl; exact exec_stopLine_immediate_of_permit free running
  case ending =>
    rintro rfl ending
    rw [← owner_state 1] at ending
    exact stopControlled_of_ending ending ▸ exec_stopLine_controlled free
  case run =>
    rintro rfl run
    exact stopControlled_of_run ((owner_state 1).trans run) ▸ exec_stopLine_controlled free
  case starting =>
    rintro rfl starting
    exact ⟨stopControlled_of_starting ((owner_state 1).trans starting) ▸ exec_stopLine_controlled free,
      changeLine_state_permit .stopped none .stopControlled (u 1)⟩
  case service => rintro rfl; exact exec_stopLine free
  case badMode => rw [exec_stopLine free, ownStopLine_of_bad_mode not_controlled not_immediate]; rfl

end Sys2Proof.Machine
end

section
/-! PROOF. R173: the check register bit by bit and byte by byte, and the frame it closes. -/

namespace Sys2Proof.Machine

/-- The bit that a shift puts out of the check register is its bit 15. -/
theorem crcBit_eq (r : Word16) :
    crcBit r = if r.getLsbD 15 then (r <<< 1) ^^^ 0x8005 else r <<< 1 := by
  rw [crcBit, BitVec.msb_eq_getLsbD_last]

/-- A byte joins the high-order 8 bits of the register, which is then shifted eight times. -/
theorem crcByte_eq_iterate (r : Word16) (b : Byte) :
    crcByte r b = crcBit^[8] (r ^^^ (b.setWidth 16 <<< 8)) := rfl

/-- The check takes its bytes in the order sent: the last byte acts on the check of those before it. -/
theorem crc_append_singleton (l : List Byte) (b : Byte) : crc (l ++ [b]) = crcByte (crc l) b :=
  List.foldl_concat ..

/-- Settles O56: `crcBit` is the obligation's shift, and the check over a list grows by one `crcByte` at its end; what
remains is the nine-byte example and the layout of `frameBytes`. -/
theorem frameCheckFollowsThePolynomial : Obligations.FrameCheckFollowsThePolynomial := by
  unfold Obligations.FrameCheckFollowsThePolynomial
  intro shift
  have shift_eq : shift = crcBit := funext fun r => (crcBit_eq r).symm
  refine ⟨rfl, fun l b => ?lastByte, ?nineDigits, fun f => ?layout⟩
  case lastByte => rw [crc_append_singleton, crcByte_eq_iterate, shift_eq]
  case nineDigits => decide +kernel
  case layout => rfl

end Sys2Proof.Machine
end

section
/-! PROOF. R180, R181: the place of a report in the queue, with room and in a full queue. -/

namespace Sys2Proof.Machine

/-! ### The place in the queue -/

/-- In a queue held by level, highest first, a report joins behind those of the same or a higher level and ahead of those
of a lower level (R180). -/
theorem insertReport_splits (r : Report) {l : List Report}
    (sorted : l.Pairwise fun a b => reportLevel b ≤ reportLevel a) :
    ∃ a b, l = a ++ b ∧ (∀ q ∈ a, reportLevel r ≤ reportLevel q) ∧ (∀ q ∈ b, reportLevel q < reportLevel r)
      ∧ insertReport r l = a ++ r :: b := by
  induction l with
  | nil => exact ⟨[], [], rfl, by simp, by simp, rfl⟩
  | cons head rest ih =>
    obtain ⟨below_head, sorted_rest⟩ := List.pairwise_cons.mp sorted
    by_cases behind : reportLevel r ≤ reportLevel head
    · obtain ⟨a, b, rfl, higher, lower, joined⟩ := ih sorted_rest
      refine ⟨head :: a, b, rfl, List.forall_mem_cons.mpr ⟨behind, higher⟩, lower, ?_⟩
      rw [insertReport, if_pos behind, joined, List.cons_append]
    · have ahead : reportLevel head < reportLevel r := Nat.lt_of_not_le behind
      refine ⟨[], head :: rest, rfl, by simp, ?_, if_neg behind⟩
      exact List.forall_mem_cons.mpr ⟨ahead, fun q mem => (below_head q mem).trans_lt ahead⟩

/-- The queue of a well-formed link controller is held by level, highest first. -/
theorem reports_sorted_of_wf {l : LinkController} (wf : l.wf = true) :
    l.reports.Pairwise fun a b => reportLevel b ≤ reportLevel a := by
  simp only [LinkController.wf, Bool.and_eq_true, decide_eq_true_eq] at wf
  obtain ⟨⟨-, sorted⟩, -⟩ := wf
  exact sorted

/-! ### What the link controller does with a report -/

section Queue

variable {r : Report} {l : LinkController}

theorem queueReport_of_room (room : l.reports.length < 32) :
    queueReport r l = { l with reports := insertReport r l.reports } := if_pos room

/-- R181: in a full queue the newest report of the lowest level is the last, and one report is lost. -/
theorem queueReport_of_full {front : List Report} {lowest : Report} (full : l.reports.length = 32)
    (queued : l.reports = front ++ [lowest]) :
    queueReport r l = if reportLevel lowest < reportLevel r
      then { l with reports := insertReport r front, dropped := min 65535 (l.dropped + 1) }
      else { l with dropped := min 65535 (l.dropped + 1) } := by
  rw [queueReport, if_neg full.not_lt, queued, List.getLast?_concat, List.dropLast_concat, saturatingSucc_eq_min]

end Queue

theorem sendReport_of_masked {r : Report} {s : State} (masked : levelEnabled s.link (reportLevel r) = false) :
    sendReport r s = s := if_neg (Bool.eq_false_iff.mp masked)

theorem sendReport_of_enabled {r : Report} {s : State} (enabled : levelEnabled s.link (reportLevel r) = true) :
    sendReport r s = { s with link := queueReport r s.link } := if_pos enabled

/-- Settles O5: the queue is held by level, so `insertReport_splits` gives the place, in the whole queue with room and in
the queue without its last report where that report is lost. -/
theorem reportsQueueByLevelThenAge : Obligations.ReportsQueueByLevelThenAge := by
  unfold Obligations.ReportsQueueByLevelThenAge
  intro r s wf
  have sorted := reports_sorted_of_wf wf
  refine ⟨sendReport_of_masked, fun enabled room => ?room, fun enabled full => ?full⟩
  case room =>
    obtain ⟨a, b, queued, higher, lower, joined⟩ := insertReport_splits r sorted
    refine ⟨a, b, queued, higher, lower, ?_⟩
    rw [sendReport_of_enabled enabled, queueReport_of_room room, joined]
  case full =>
    have nonempty : s.link.reports ≠ [] := List.ne_nil_of_length_pos (by omega)
    obtain ⟨front, lowest, queued⟩ := (List.eq_nil_or_concat' _).resolve_left nonempty
    obtain ⟨sorted_front, -, above_lowest⟩ := List.pairwise_append.mp (queued ▸ sorted)
    refine ⟨front, lowest, queued, fun q mem => above_lowest q mem lowest List.mem_cons_self,
      fun displaced => ?displaced, fun discarded => ?discarded⟩
    case displaced =>
      obtain ⟨a, b, kept, higher, lower, joined⟩ := insertReport_splits r sorted_front
      refine ⟨a, b, kept, higher, lower, ?_⟩
      rw [sendReport_of_enabled enabled, queueReport_of_full full queued, if_pos displaced, joined]
    case discarded =>
      rw [sendReport_of_enabled enabled, queueReport_of_full full queued, if_neg discarded.not_gt]

end Sys2Proof.Machine
end

section
/-! SUPPORT. What every command keeps of the queue of commands and of the invariants, said once: `Keeps s t`. The operations
of the blocks keep it because they are `Moves`; here the operations that `Moves` does not cover, the inputs, the requests and
the ports, and then every command. -/

namespace Sys2Proof.Machine

variable {s t u : State}

/-- What every command keeps between s and t: the queue of commands, and each of the invariants. -/
structure Keeps (s t : State) : Prop where
  pending    : t.pending = s.pending
  positionWf : s.position.wf = true → t.position.wf = true
  lineWf     : s.line.wf = true → t.line.wf = true
  linkWf     : s.link.wf = true → t.link.wf = true
  tareQueue  : s.gas.tareQueue.Nodup → t.gas.tareQueue.Nodup

theorem Keeps.refl (s : State) : Keeps s s := ⟨rfl, id, id, id, id⟩

theorem Keeps.trans (h : Keeps s t) (k : Keeps t u) : Keeps s u :=
  ⟨k.pending.trans h.pending, k.positionWf ∘ h.positionWf, k.lineWf ∘ h.lineWf, k.linkWf ∘ h.linkWf,
    k.tareQueue ∘ h.tareQueue⟩

theorem Moves.keeps (h : Moves s t) : Keeps s t := ⟨h.pending, h.positionWf, h.lineWf, h.linkWf, h.tareQueue⟩

theorem Elapses.keeps {us : Nat} (h : Elapses us s t) : Keeps s t :=
  ⟨h.pending, h.positionWf, h.lineWf, h.linkWf, h.tareQueue⟩

theorem finish_keeps (s : State) : Keeps s (finish s) := (finish_elapses s).keeps

theorem elapse_keeps (us : Nat) (s : State) : Keeps s (elapse us s) := (elapse_elapses us s).keeps

/-! ### Fields that no invariant reads -/

theorem inputs_keeps (s : State) (v : PlantInputs) : Keeps s { s with inputs := v } := ⟨rfl, id, id, id, id⟩

theorem recipes_keeps (s : State) (v : RecipeStore) : Keeps s { s with recipes := v } := ⟨rfl, id, id, id, id⟩

theorem config_keeps (s : State) (v : MachineConfig) : Keeps s { s with config := v } := ⟨rfl, id, id, id, id⟩

/-- Safe flag, link supervision and last request are no part of what is kept of line control. -/
theorem supervision_keeps (s : State) (safe : Bool) (stage : Nat) (quiet : Timer) (request : Option LastRequest) :
    Keeps s { s with line := { s.line with safe := safe, stage := stage, quietTimer := quiet, lastRequest := request } } :=
  ⟨rfl, id, id, id, id⟩

theorem sampleInputs_keeps (inputs : List SampledInput) (s : State) : Keeps s (sampleInputs inputs s) := by
  rw [sampleInputs_eq]
  exact inputs_keeps s _

theorem modifyPort_keeps (port : Port) (f : PortState → PortState) (s : State) : Keeps s (modifyPort port f s) := by
  cases port <;> exact ⟨rfl, id, id, id, id⟩

theorem setPort_keeps (port : Port) (v : PortState) (s : State) : Keeps s (setPort port v s) :=
  modifyPort_keeps port (fun _ => v) s

/-! ### The plant side -/

theorem powerOnState_keeps (s : State) : Keeps s (powerOnState s) :=
  ⟨rfl, fun _ => (by decide : PositionCounter.initial.wf = true), fun _ => (by decide : LineControl.initial.wf = true),
    fun _ => (by decide : LinkController.initial.wf = true), fun _ => (by decide : GasUnit.initial.tareQueue.Nodup)⟩

theorem stallTimer_moves (s : State) (v : Timer) : Moves s { s with position := { s.position with stallTimer := v } } :=
  moves_position (Moves.refl s) _ id

theorem changeDriveReady_keeps (ready : Bool) (s : State) : Keeps s (changeDriveReady ready s) := by
  unfold changeDriveReady
  dsimp only
  split
  · exact Keeps.refl s
  refine (inputs_keeps s { s.inputs with driveReady := ready }).trans ?_
  split
  · split
    · exact (stallTimer_moves { s with inputs := { s.inputs with driveReady := ready } } _).keeps
    · exact (takeHaltCause_moves (stallTimer_moves { s with inputs := { s.inputs with driveReady := ready } } none)).keeps
  · exact Keeps.refl _

theorem noFlowExpires_keeps (c : ChannelNo) (s : State) : Keeps s (noFlowExpires c s) := by
  unfold noFlowExpires
  split
  · exact (closeIfCharging_moves (Moves.refl s)).keeps
  · exact Keeps.refl s

theorem settleExpires_keeps (c : ChannelNo) (s : State) : Keeps s (settleExpires c s) := by
  unfold settleExpires
  split
  · exact (endSettle_moves (Moves.refl s)).keeps
  · exact Keeps.refl s

theorem tareExpires_keeps (c : ChannelNo) (s : State) : Keeps s (tareExpires c s) := by
  unfold tareExpires
  split
  · exact (endTare_moves (Moves.refl s)).keeps
  · exact Keeps.refl s

theorem tareTimeReached_keeps (c : ChannelNo) (s : State) : Keeps s (tareTimeReached c s) := by
  unfold tareTimeReached
  split
  · exact (setTareDue_moves (modifyChannel_moves (Moves.refl s))).keeps
  · exact Keeps.refl s

theorem changePressure_keeps (kPa : Word16) (s : State) : Keeps s (changePressure kPa s) :=
  (inputs_keeps s _).trans (evaluateSupply_moves (Moves.refl _)).keeps

theorem bellClosedLevel_keeps (p : PocketNo) (active : Bool) (s : State) : Keeps s (bellClosedLevel p active s) := by
  refine (inputs_keeps s { s.inputs with bellClosed := s.inputs.bellClosed.set p active }).trans ?_
  unfold bellClosedLevel
  dsimp only
  split
  · exact (bellClosedActive_moves (Moves.refl _)).keeps
  · exact Keeps.refl _

theorem jawClosedLevel_keeps (p : PocketNo) (active : Bool) (s : State) : Keeps s (jawClosedLevel p active s) := by
  refine (inputs_keeps s { s.inputs with jawClosed := s.inputs.jawClosed.set p active }).trans ?_
  unfold jawClosedLevel
  dsimp only
  split
  · exact (jawClosedActive_moves (Moves.refl _)).keeps
  · exact Keeps.refl _

theorem bellOpenLevel_keeps (p : PocketNo) (active : Bool) (s : State) : Keeps s (bellOpenLevel p active s) := by
  refine (inputs_keeps s { s.inputs with bellOpen := s.inputs.bellOpen.set p active }).trans ?_
  unfold bellOpenLevel
  dsimp only
  split
  · exact (bellOpenActive_moves (Moves.refl _)).keeps
  · exact Keeps.refl _

theorem gateEyeLevel_keeps (active : Bool) (s : State) : Keeps s (gateEyeLevel active s) := by
  unfold gateEyeLevel
  dsimp only
  split <;> exact ⟨rfl, id, id, id, id⟩

theorem gateSensorShows_keeps (shown : Option GatePos) (s : State) : Keeps s (gateSensorShows shown s) := by
  unfold gateSensorShows
  dsimp only
  split <;> exact ⟨rfl, id, id, id, id⟩

/-- HALT entry leaves a line that is well formed whatever the latch shows: in HALT or STOPPED, permit and drain cause off,
the sync timer stopped and the halt record written. -/
theorem enterHalt_line_wf (cause : HaltCause) (s : State) : (enterHalt cause s).line.wf = true := by
  have told : (haltEntered cause s).line = (haltRecorded cause s).line := by
    rw [haltEntered, sendReport_line, sendReport_line, handOffLine_eq, (haltBlocks_aside (Aside.refl 0 _)).elsewhere]
  rw [enterHalt_eq, LineControl.wf_iff]
  unfold checkStandstill
  split
  · rw [changeLine_eq]
    simp [setLine, permitIn]
  · rw [told]
    simp [haltRecorded, setLine, permitIn]

/-- R162: the latch set, whatever the line state, with what the halt cause then makes of the line. -/
theorem takeHaltCause_of_latched_keeps (cause : HaltCause) (latch : Option LatchCause) (s : State) :
    Keeps s (takeHaltCause cause { s with line := { s.line with latch := latch } }) := by
  have moves := takeHaltCause_moves (cause := cause) (Moves.refl { s with line := { s.line with latch := latch } })
  refine ⟨moves.pending, moves.positionWf, fun wf => ?_, moves.linkWf, moves.tareQueue⟩
  cases permit : permitIn s.line.state
  · refine moves.lineWf ?_
    rw [LineControl.wf_iff] at wf ⊢
    obtain ⟨run, -, drain, sync, halt⟩ := wf
    refine ⟨run, Or.inr ?_, drain, sync, halt⟩
    revert permit
    dsimp only
    cases s.line.state <;> simp [permitIn]
  · have enters : takeHaltCause cause { s with line := { s.line with latch := latch } }
        = enterHalt cause { s with line := { s.line with latch := latch } } := takeHaltCause_of_permit permit
    rw [enters]
    exact enterHalt_line_wf cause _

theorem takeHaltCause_setLatch_keeps (cause : HaltCause) (input : InterlockInput) (s : State) :
    Keeps s (takeHaltCause cause (setLatch input s)) := by
  unfold setLatch
  split
  · exact (takeHaltCause_moves (Moves.refl s)).keeps
  · let report := Report.interlockSet (latchCauseOf input) s.line.state
    have sent : sendReport report { s with line := { s.line with latch := some (latchCauseOf input) } }
        = { sendReport report s with line := { (sendReport report s).line with latch := some (latchCauseOf input) } } := by
      rw [sendReport_eq, sendReport_eq report s]
      rfl
    rw [sent]
    exact (sendReport_moves (Moves.refl s)).keeps.trans (takeHaltCause_of_latched_keeps cause _ _)

theorem changeInterlock_keeps (input : InterlockInput) (active : Bool) (s : State) :
    Keeps s (changeInterlock input active s) := by
  have level : Keeps s (setInterlockLevel input active s) := by cases input <;> exact inputs_keeps s _
  unfold changeInterlock
  dsimp only
  split
  · exact level.trans (takeHaltCause_setLatch_keeps _ input _)
  · exact level

theorem syncExpires_keeps (s : State) : Keeps s (syncExpires s) := by
  unfold syncExpires
  split
  · exact (takeHaltCause_moves (Moves.refl s)).keeps
  · exact Keeps.refl s

theorem setSafe_keeps (s : State) : Keeps s (setSafe s) := by
  unfold setSafe
  split
  · exact Keeps.refl s
  · exact (supervision_keeps s true s.line.stage s.line.quietTimer s.line.lastRequest).trans
      (failChangeover_moves (refreshCeiling_moves (Moves.refl _))).keeps

theorem quietExpires_keeps (s : State) : Keeps s (quietExpires s) := by
  unfold quietExpires
  split
  · split
    · exact (supervision_keeps s s.line.safe _ _ s.line.lastRequest).trans (sendReport_moves (Moves.refl _)).keeps
    · exact (((supervision_keeps s s.line.safe _ _ s.line.lastRequest).trans
        (sendReport_moves (Moves.refl _)).keeps).trans (setSafe_keeps _)).trans (takeDrainCause_moves (Moves.refl _)).keeps
    · exact Keeps.refl s
  · exact Keeps.refl s

/-! ### START_LINE (R143, R154) -/

/-- With the latch clear the line may change to any state but HALT. -/
theorem changeLine_keeps {after : LineState} {drain : Option DrainCause} {event : LineEvent}
    (clear : s.line.latch = none) (hd : drain.isSome = decide (after = .drain)) (hh : after ≠ .halt) :
    Keeps s (changeLine after drain event id s) := by
  have set : Keeps s (setLine after drain s) := by
    refine ⟨rfl, id, fun _ => ?_, id, id⟩
    rw [LineControl.wf_iff]
    refine ⟨rfl, Or.inl clear, hd, ?_, Or.inl hh⟩
    by_cases starting : after = .starting <;> simp [setLine, starting]
  exact set.trans (sendReport_moves (handOffLine_moves (Moves.refl _))).keeps

theorem startRun_keeps (clear : s.line.latch = none) : Keeps s (startRun s) := by
  refine (changeLine_keeps (drain := none) (event := .start) clear rfl (by decide : LineState.run ≠ .halt)).trans ?_
  unfold startRun
  dsimp only
  split
  · exact (checkInService_moves (Moves.refl _)).keeps
  · exact (checkInService_moves (takeHaltCause_moves (Moves.refl _))).keeps

theorem startStarting_keeps (clear : s.line.latch = none) : Keeps s (startStarting s) := by
  have starts := changeLine_keeps (drain := none) (event := .start) clear rfl (by decide : LineState.starting ≠ .halt)
  have state := (changeLine_state_permit .starting none .start s).1
  refine starts.trans ⟨rfl, id, fun wf => ?_, id, id⟩
  rw [LineControl.wf_iff] at wf ⊢
  obtain ⟨run, latch, drain, -, halt⟩ := wf
  exact ⟨run, latch, drain, Or.inr state, halt⟩

theorem startLine_keeps (lot : LotId) (slot : SlotNo) (stopped : s.line.state = .stopped) (clear : s.line.latch = none) :
    Keeps s (startLine lot slot s) := by
  have opened : Moves s (if isCurrent lot s then s else openNewLot lot slot s) := by
    split
    · exact Moves.refl s
    · exact openNewLot_moves (Moves.refl s)
  have line : (if isCurrent lot s then s else openNewLot lot slot s).line.state = .stopped := by
    split
    · exact stopped
    · unfold openNewLot
      rw [refreshSlots_line]
      dsimp only
      split
      · rw [sendReport_line]
        exact stopped
      · exact stopped
  unfold startLine
  dsimp only
  generalize (if isCurrent lot s then s else openNewLot lot slot s) = u at opened line ⊢
  have forgotten : Keeps u { u with line := { u.line with haltRecord := none } } := by
    refine ⟨rfl, id, fun wf => ?_, id, id⟩
    rw [LineControl.wf_iff] at wf ⊢
    obtain ⟨run, latch, drain, sync, -⟩ := wf
    exact ⟨run, latch, drain, sync, Or.inl (by simp [line])⟩
  have clear' : u.line.latch = none := opened.latch.trans clear
  refine opened.keeps.trans (forgotten.trans ?_)
  split
  · exact startRun_keeps clear'
  · exact startStarting_keeps clear'

theorem ownStartLine_keeps (lot : Word32) (slot : Byte) (s : State) : Keeps s (ownStartLine lot slot s).1 := by
  unfold ownStartLine
  split
  · exact Keeps.refl s
  split
  · exact Keeps.refl s
  split
  · exact Keeps.refl s
  split
  · exact Keeps.refl s
  split
  · exact Keeps.refl s
  split
  · exact Keeps.refl s
  split
  · exact Keeps.refl s
  · rename_i stopped latch _ _ _ _
    exact startLine_keeps lot _ (not_not.mp stopped) (by simpa using latch)

/-! ### The other requests -/

theorem ownSetReportMask_keeps (mask : Byte) (s : State) : Keeps s (ownSetReportMask mask s).1 := ⟨rfl, id, id, id, id⟩

theorem stopControlled_moves (s : State) : Moves s (stopControlled s) := by
  unfold stopControlled
  split
  · exact changeLine_moves rfl (fun permit => by cases permit) (by decide) Moves.refl (Moves.refl s)
  · exact takeDrainCause_moves (Moves.refl s)
  all_goals exact Moves.refl s

theorem stopImmediate_moves (port : Port) (s : State) : Moves s (stopImmediate port s) := by
  unfold stopImmediate
  split
  · exact Moves.refl s
  · exact Moves.refl s
  · exact takeHaltCause_moves (Moves.refl s)

theorem ownStopLine_keeps (port : Port) (mode : Byte) (s : State) : Keeps s (ownStopLine port mode s).1 := by
  unfold ownStopLine
  split
  · exact Keeps.refl s
  · exact Keeps.refl s
  · exact (stopControlled_moves s).keeps
  · exact (stopImmediate_moves _ s).keeps

theorem ownResync_keeps (s : State) : Keeps s (ownResync s).1 := by
  unfold ownResync
  split
  · exact Keeps.refl s
  · exact (resyncPosition_moves (Moves.refl s)).keeps

theorem ownClearInterlock_keeps (s : State) : Keeps s (ownClearInterlock s).1 := by
  unfold ownClearInterlock
  split
  · exact Keeps.refl s
  · refine ⟨rfl, id, fun wf => ?_, id, id⟩
    rw [LineControl.wf_iff] at wf
    obtain ⟨run, -, drain, sync, halt⟩ := wf
    exact (LineControl.wf_iff _).mpr ⟨run, Or.inl rfl, drain, sync, halt⟩

theorem ownClearSafe_keeps (s : State) : Keeps s (ownClearSafe s).1 :=
  (supervision_keeps s false s.line.stage s.line.quietTimer s.line.lastRequest).trans
    (refreshCeiling_moves (Moves.refl _)).keeps

theorem restartSupervision_keeps (s : State) : Keeps s (restartSupervision s) :=
  supervision_keeps s s.line.safe _ _ s.line.lastRequest

theorem applyConfig_keeps (c : MachineConfig) (s : State) : Keeps s (applyConfig c s) :=
  ((config_keeps s c).trans
    (refreshCeiling_moves (forChannels_moves (fun _ u => recheckTare_moves (Moves.refl u)) (Moves.refl _))).keeps).trans
    (restartSupervision_keeps _)

theorem ownSetConfig_keeps (values : ConfigWire) (s : State) : Keeps s (ownSetConfig values s).1 := by
  unfold ownSetConfig
  split
  · exact Keeps.refl s
  split
  · exact Keeps.refl s
  · exact applyConfig_keeps _ s

theorem restartState_keeps (s : State) : Keeps s (restartState s) :=
  ⟨rfl, fun _ => (by decide : PositionCounter.initial.wf = true),
    fun _ => (LineControl.wf_iff _).mpr ⟨rfl, Or.inr (Or.inr rfl), rfl, Or.inl rfl, Or.inl LineState.noConfusion⟩,
    fun _ => rfl, fun _ => (by decide : GasUnit.initial.tareQueue.Nodup)⟩

theorem reportRestarted_moves (before : State) (p : PocketNo) (s : State) : Moves s (reportRestarted before p s) := by
  unfold reportRestarted
  split
  · exact reportHead_moves (Moves.refl s)
  · exact Moves.refl s

theorem ownRestart_keeps (s : State) : Keeps s (ownRestart s).1 := by
  unfold ownRestart
  split
  · exact Keeps.refl s
  · exact (restartState_keeps s).trans (forHeads_moves (reportRestarted_moves s) (Moves.refl _)).keeps

theorem storeRecipe_keeps (slot : SlotNo) (r : Recipe) (s : State) : Keeps s (storeRecipe slot r s) := by
  refine (recipes_keeps s
    { slots := s.recipes.slots.set slot { generation := s.recipes.slots[slot].generation + 1, content := some r },
      lineReservation := dropReservation slot s.recipes.lineReservation,
      serviceReservation := dropReservation slot s.recipes.serviceReservation }).trans ?_
  unfold storeRecipe
  dsimp only
  split
  · exact (refreshSlots_moves (Moves.refl _)).keeps
  · exact Keeps.refl _

theorem writeChecked_keeps (slot : SlotNo) (w : RecipeWire) (s : State) : Keeps s (writeChecked slot w s).1 := by
  unfold writeChecked
  split
  · exact Keeps.refl s
  split
  · exact Keeps.refl s
  · exact storeRecipe_keeps slot _ s

theorem ownWriteRecipe_keeps (slot : Byte) (w : RecipeWire) (s : State) : Keeps s (ownWriteRecipe slot w s).1 := by
  unfold ownWriteRecipe
  split
  · exact Keeps.refl s
  · exact writeChecked_keeps _ w s

theorem ownWriteRecipeReserved_keeps (port : Port) (slot : Byte) (w : RecipeWire) (s : State) :
    Keeps s (ownWriteRecipeReserved port slot w s).1 := by
  unfold ownWriteRecipeReserved
  split
  · exact Keeps.refl s
  split
  · exact writeChecked_keeps _ w s
  · exact Keeps.refl s

theorem reserve_keeps (port : Port) (slot : SlotNo) (s : State) : Keeps s (reserve port slot s) := by
  cases port <;> exact recipes_keeps s _

theorem ownReserveRecipe_keeps (port : Port) (slot : Byte) (s : State) : Keeps s (ownReserveRecipe port slot s).1 := by
  unfold ownReserveRecipe
  split
  · exact Keeps.refl s
  · exact reserve_keeps port _ s

theorem ownReadRecipe_keeps (port : Port) (slot : Byte) (s : State) : Keeps s (ownReadRecipe port slot s).1 := by
  unfold ownReadRecipe
  split <;> exact Keeps.refl s

theorem ownChangeover_keeps (target : Byte) (expected : Word16) (lot : Word32) (boundary : Byte) (n : Word16) (s : State) :
    Keeps s (ownChangeover target expected lot boundary n s).1 := by
  unfold ownChangeover
  split
  · exact Keeps.refl s
  split
  · exact Keeps.refl s
  split
  · exact Keeps.refl s
  dsimp only
  split
  · exact Keeps.refl s
  · exact (moves_lots (Moves.refl s)).keeps

theorem ownAbortChangeover_keeps (s : State) : Keeps s (ownAbortChangeover s).1 := by
  unfold ownAbortChangeover
  split
  · exact (failChangeover_moves (Moves.refl s)).keeps
  · exact Keeps.refl s
  · exact Keeps.refl s

theorem ownGetHead_keeps (head : Byte) (s : State) : Keeps s (ownGetHead head s).1 := by
  unfold ownGetHead
  split <;> exact Keeps.refl s

theorem ownSetHeadOut_keeps (port : Port) (head direction : Byte) (s : State) :
    Keeps s (ownSetHeadOut port head direction s).1 := by
  unfold ownSetHeadOut
  split
  · exact Keeps.refl s
  · exact Keeps.refl s
  split
  · exact Keeps.refl s
  split
  · exact (headOut_moves (Moves.refl s)).keeps
  split
  · exact (headIn_moves (Moves.refl s)).keeps
  · exact Keeps.refl s

theorem ownRestoreHead_keeps (port : Port) (head : Byte) (s : State) : Keeps s (ownRestoreHead port head s).1 := by
  unfold ownRestoreHead
  split
  · exact Keeps.refl s
  split
  · exact Keeps.refl s
  split
  · exact (restoreRetired_moves (Moves.refl s)).keeps
  · exact Keeps.refl s

theorem ownClearTallies_keeps (head : Byte) (s : State) : Keeps s (ownClearTallies head s).1 := by
  unfold ownClearTallies
  split
  · exact (moves_heads (Moves.refl s)).keeps
  split
  · exact Keeps.refl s
  · exact (setHead_moves (Moves.refl s)).keeps

theorem ownGetChannel_keeps (channel : Byte) (s : State) : Keeps s (ownGetChannel channel s).1 := by
  unfold ownGetChannel
  split <;> exact Keeps.refl s

theorem ownSetChannel_keeps (port : Port) (channel action : Byte) (s : State) :
    Keeps s (ownSetChannel port channel action s).1 := by
  unfold ownSetChannel
  split
  · exact Keeps.refl s
  split
  · exact Keeps.refl s
  · exact Keeps.refl s
  · dsimp only [accept]
    split
    · exact (switchOn_moves (Moves.refl s)).keeps
    · exact (switchOff_moves (Moves.refl s)).keeps

theorem ownTakeTrace_keeps (count : Byte) (s : State) : Keeps s (ownTakeTrace count s).1 := by
  unfold ownTakeTrace
  split
  · exact Keeps.refl s
  · exact (moves_trace (Moves.refl s)).keeps

theorem handToOwner_keeps (port : Port) (f : Frame) (s : State) : Keeps s (handToOwner port f s).1 := by
  unfold handToOwner
  dsimp only
  split
  case h_3 => exact ownStartLine_keeps _ _ s
  case h_4 => exact ownStopLine_keeps port _ s
  case h_5 => exact ownResync_keeps s
  case h_6 => exact ownClearInterlock_keeps s
  case h_7 => exact ownClearSafe_keeps s
  case h_8 => exact ownSetConfig_keeps _ s
  case h_10 => exact ownRestart_keeps s
  case h_11 => exact ownWriteRecipe_keeps _ _ s
  case h_12 => exact ownReserveRecipe_keeps port _ s
  case h_13 => exact ownWriteRecipeReserved_keeps port _ _ s
  case h_14 => exact ownReadRecipe_keeps port _ s
  case h_15 => exact ownChangeover_keeps _ _ _ _ _ s
  case h_16 => exact ownAbortChangeover_keeps s
  case h_19 => exact ownGetHead_keeps _ s
  case h_20 => exact ownSetHeadOut_keeps port _ _ s
  case h_21 => exact ownRestoreHead_keeps port _ s
  case h_23 => exact ownClearTallies_keeps _ s
  case h_24 => exact ownGetChannel_keeps _ s
  case h_25 => exact ownSetChannel_keeps port _ _ s
  case h_26 => exact ownTakeTrace_keeps _ s
  case h_27 => exact ownSetReportMask_keeps _ s
  all_goals exact Keeps.refl s

/-! ### The ports -/

theorem answerRequest_keeps (port : Port) (f : Frame) (s : State) : Keeps s (answerRequest port f s).1 := by
  unfold answerRequest
  split
  · exact Keeps.refl s
  split
  · exact Keeps.refl s
  split
  · exact Keeps.refl s
  · exact handToOwner_keeps port f s

theorem takeRequest_keeps (port : Port) (f : Frame) (s : State) : Keeps s (takeRequest port f s) := by
  have noted : Keeps s (noteRequest port f s) := by
    cases port
    · exact supervision_keeps s s.line.safe s.line.stage s.line.quietTimer _
    · exact Keeps.refl s
  unfold takeRequest
  exact (noted.trans (answerRequest_keeps port f _)).trans (modifyPort_keeps port _ _)

theorem takeHead_keeps (port : Port) (s : State) : Keeps s (takeHead port s) := by
  unfold takeHead
  split
  · exact takeRequest_keeps port _ s
  · exact Keeps.refl s

theorem placeFrame_keeps (port : Port) (f : Frame) (s : State) : Keeps s (placeFrame port f s) := by
  unfold placeFrame
  dsimp only
  split
  · split
    · exact (setPort_keeps port _ s).trans (takeHead_keeps port _)
    · exact setPort_keeps port _ s
  split
  · exact setPort_keeps port _ s
  · exact Keeps.refl s

theorem frameArrives_keeps (port : Port) (f : Frame) (s : State) : Keeps s (frameArrives port f s) := by
  cases port
  · exact (restartSupervision_keeps s).trans (placeFrame_keeps .line f _)
  · exact placeFrame_keeps .service f s

theorem hunt_keeps (port : Port) (s : State) : Keeps s (hunt port s) := modifyPort_keeps port _ s

theorem receiveFrame_keeps (port : Port) (f : Frame) (s : State) : Keeps s (receiveFrame port f s) := by
  unfold receiveFrame
  split
  · exact Keeps.refl s
  split
  · exact (hunt_keeps port s).trans (frameArrives_keeps port f _)
  · exact hunt_keeps port s

theorem extendFrame_keeps (port : Port) (bytes : List Byte) (b : Byte) (s : State) :
    Keeps s (extendFrame port bytes b s) := by
  unfold extendFrame
  dsimp only
  split
  · exact hunt_keeps port s
  split
  · split
    · exact (hunt_keeps port s).trans (frameArrives_keeps port _ _)
    · exact hunt_keeps port s
  · exact modifyPort_keeps port _ s

theorem receiveByte_keeps (port : Port) (b : Byte) (s : State) : Keeps s (receiveByte port b s) := by
  unfold receiveByte
  split
  · exact Keeps.refl s
  split
  · split
    · exact modifyPort_keeps port _ s
    · exact Keeps.refl s
  · exact extendFrame_keeps port _ b s

theorem gapExpires_keeps (port : Port) (s : State) : Keeps s (gapExpires port s) := by
  unfold gapExpires
  split
  · exact hunt_keeps port s
  · exact Keeps.refl s

theorem nextInPort_keeps (port : Port) (s : State) : Keeps s (nextInPort port s) := by
  unfold nextInPort
  split
  · split
    · exact modifyPort_keeps port _ s
    · exact takeHead_keeps port s
  · exact takeHead_keeps port s

theorem endTransmission_keeps (port : Port) (s : State) : Keeps s (endTransmission port s) := by
  unfold endTransmission
  split
  · exact Keeps.refl s
  split
  · exact (modifyPort_keeps port _ s).trans (nextInPort_keeps port _)
  · exact (modifyPort_keeps port _ s).trans (nextInPort_keeps port _)
  · exact modifyPort_keeps port _ s

/-! ### Every command -/

/-- Every command completes, and keeps the queue and the invariants. -/
theorem exec_keeps (c : Instr) (s : State) : ∃ u, exec c s = .next (finish u) ∧ Keeps s u := by
  cases c with
  | forwardEncoderStep e ins ord =>
    exact ⟨_, rfl, ((sampleInputs_keeps ins s).trans (elapse_keeps e _)).trans (forwardStep_moves (Moves.refl _)).keeps⟩
  | reverseEncoderStep e => exact ⟨_, rfl, (elapse_keeps e s).trans (reverseStep_moves (Moves.refl _)).keeps⟩
  | indexPulse => exact ⟨_, rfl, (takeIndex_moves (Moves.refl s)).keeps⟩
  | stepCountReaches2888 => exact ⟨_, rfl, (takeStepLimit_moves (Moves.refl s)).keeps⟩
  | stallTimerExpiry => exact ⟨_, rfl, (stallExpires_moves (Moves.refl s)).keeps⟩
  | driveReadyChange ready => exact ⟨_, rfl, changeDriveReady_keeps ready s⟩
  | standstillTimerExpiry => exact ⟨_, rfl, (standstillExpires_moves (Moves.refl s)).keeps⟩
  | powerOn => exact ⟨_, rfl, powerOnState_keeps s⟩
  | meterIncrement e c mg => exact ⟨_, rfl, (elapse_keeps e s).trans (takeIncrement_moves (Moves.refl _)).keeps⟩
  | meterError c => exact ⟨_, rfl, (takeMeterError_moves (Moves.refl s)).keeps⟩
  | noFlowTimerExpiry c => exact ⟨_, rfl, noFlowExpires_keeps c s⟩
  | settleTimerExpiry c => exact ⟨_, rfl, settleExpires_keeps c s⟩
  | tareTimerExpiry c => exact ⟨_, rfl, tareExpires_keeps c s⟩
  | tareIntervalTimeReached c => exact ⟨_, rfl, tareTimeReached_keeps c s⟩
  | supplyPressureChange kPa => exact ⟨_, rfl, changePressure_keeps kPa s⟩
  | bellClosedInput p active => exact ⟨_, rfl, bellClosedLevel_keeps p active s⟩
  | jawClosedInput p active => exact ⟨_, rfl, jawClosedLevel_keeps p active s⟩
  | jawTimerExpiry p => exact ⟨_, rfl, (jawTimeout_moves (Moves.refl s)).keeps⟩
  | jawForceReading p n => exact ⟨_, rfl, (followForce_moves (Moves.refl s)).keeps⟩
  | bellOpenInput p active => exact ⟨_, rfl, bellOpenLevel_keeps p active s⟩
  | weigherRecord weight => exact ⟨_, rfl, (takeWeight_moves (Moves.refl s)).keeps⟩
  | gateEyeInput active => exact ⟨_, rfl, gateEyeLevel_keeps active s⟩
  | gatePositionSensor shown => exact ⟨_, rfl, gateSensorShows_keeps shown s⟩
  | gateSettleTimerExpiry => exact ⟨_, rfl, (gateUnconfirmed_moves (Moves.refl s)).keeps⟩
  | interlockInputActive input active => exact ⟨_, rfl, changeInterlock_keeps input active s⟩
  | syncTimerExpiry => exact ⟨_, rfl, syncExpires_keeps s⟩
  | quietTimerExpiry => exact ⟨_, rfl, quietExpires_keeps s⟩
  | frameReceived port f => exact ⟨_, rfl, (sampleInputs_keeps f.inputs s).trans (receiveFrame_keeps port f.value _)⟩
  | gapTimerExpiry port => exact ⟨_, rfl, gapExpires_keeps port s⟩
  | transmitEnd port => exact ⟨_, rfl, (sampleInputs_keeps port.inputs s).trans (endTransmission_keeps port.value _)⟩
  | byteReceived port b => exact ⟨_, rfl, (sampleInputs_keeps b.inputs s).trans (receiveByte_keeps port b.value _)⟩
  | getHead port tag head => exact ⟨_, rfl, (sampleInputs_keeps head.inputs s).trans (receiveFrame_keeps port _ _)⟩
  | _ => exact ⟨_, rfl, receiveFrame_keeps _ _ s⟩

/-- Every step keeps the invariants: it runs a command on the queue's rest, or passes a millisecond. -/
theorem step_keeps (next : step s = .next t) : Keeps { s with pending := t.pending } t ∧ finish t = t := by
  unfold step at next
  split at next
  · rename_i c rest _
    obtain ⟨u, run, keeps⟩ := exec_keeps c { s with pending := rest }
    rw [run] at next
    cases next
    have ended := keeps.trans (finish_keeps u)
    exact ⟨⟨rfl, ended.positionWf, ended.lineWf, ended.linkWf, ended.tareQueue⟩, finish_finish u⟩
  · cases next
    have ended := (elapse_keeps 1000 s).trans (finish_keeps _)
    exact ⟨⟨rfl, ended.positionWf, ended.lineWf, ended.linkWf, ended.tareQueue⟩, finish_finish _⟩

end Sys2Proof.Machine
end

section
/-! PROOF. The invariants hold at reset and every step keeps them; every command completes and leaves the queue. -/

namespace Sys2Proof.Machine

/-- Settles O57: each invariant is a decidable fact about the power-on values. -/
theorem resetIsWellFormed : Obligations.ResetIsWellFormed :=
  ⟨by decide, by decide, by decide, by decide⟩

/-- Settles O58: no operation of any block takes the position counter out of its ranges (`Moves`), and so no step does. -/
theorem everyStepKeepsThePositionCounterInRange : Obligations.EveryStepKeepsThePositionCounterInRange :=
  fun _ _ wf next => (step_keeps next).1.positionWf wf

/-- Settles O59: HALT entry clears permit, drain cause and sync timer whatever the latch shows, so the latch may be set in any
line state before it; START_LINE alone turns the permit on, and only with the latch clear. -/
theorem everyStepKeepsTheInterlock : Obligations.EveryStepKeepsTheInterlock :=
  fun _ _ wf next => (step_keeps next).1.lineWf wf

/-- Settles O60: `sendReport` keeps the queue sorted and bounded, and a channel joins the tare queue only where it is not in
it. -/
theorem everyStepKeepsTheReportAndTareQueues : Obligations.EveryStepKeepsTheReportAndTareQueues :=
  ⟨fun _ _ wf next => (step_keeps next).1.linkWf wf, fun _ _ once next => (step_keeps next).1.tareQueue once⟩

/-- Settles O3: `exec_keeps` over all commands; what has ended has ended (`finish_finish`). -/
theorem everyCommandCompletesAndLeavesTheQueue : Obligations.EveryCommandCompletesAndLeavesTheQueue := by
  refine ⟨fun c s => ?completes, fun c s t next => ?ended, fun s t next => (step_keeps next).2, ?reset⟩
  case completes =>
    obtain ⟨u, run, keeps⟩ := exec_keeps c s
    exact ⟨u, run, (finish_pending u).trans keeps.pending⟩
  case ended =>
    obtain ⟨u, run, -⟩ := exec_keeps c s
    rw [run] at next
    cases next
    exact finish_finish u
  case reset => rfl

/-- Settles O1: the queue's front decides. -/
theorem stepRunsTheFrontCommand : Obligations.StepRunsTheFrontCommand := by
  intro c rest s waiting
  unfold step
  rw [waiting]

/-- Settles O6: POWER_ON ends in the power-on state for the inputs as they are. -/
theorem powerOnGivesThePowerOnState : Obligations.PowerOnGivesThePowerOnState := fun _ => rfl

end Sys2Proof.Machine
end

section
/-! PROOF. R166, R178, R179: the end of a command. -/

namespace Sys2Proof.Machine

variable {s : State}

/-! ### Each transmitter -/

theorem kickLine_of_outstanding {t : TxFrame} (idle : s.link.linePort.transmitter = none)
    (waits : s.link.linePort.outstanding = some t) :
    kickLine s = setPort .line { s.link.linePort with transmitter := some t, outstanding := none } s := by
  unfold kickLine
  dsimp only
  rw [idle, waits]

theorem kickLine_of_report {r : Report} {rest : List Report} (idle : s.link.linePort.transmitter = none)
    (free : s.link.linePort.outstanding = none) (queued : s.link.reports = r :: rest) :
    kickLine s = { s with link := { s.link with
      linePort := { s.link.linePort with transmitter := some { what := .report, frame := reportFrame r s.link.dropped } },
      reports := rest, dropped := 0 } } := by
  unfold kickLine
  dsimp only
  rw [idle, free, queued]

theorem kickLine_of_nothing (reply : ∀ t, s.link.linePort.transmitter = none → s.link.linePort.outstanding ≠ some t)
    (report : ∀ r rest, s.link.linePort.transmitter = none → s.link.linePort.outstanding = none →
      s.link.reports ≠ r :: rest) : kickLine s = s := by
  unfold kickLine
  dsimp only
  split
  case h_1 idle waits => exact absurd waits (reply _ idle)
  case h_2 idle free queued => exact absurd queued (report _ _ idle free)
  case h_3 => rfl

theorem kickService_of_outstanding {t : TxFrame} (idle : s.link.servicePort.transmitter = none)
    (waits : s.link.servicePort.outstanding = some t) (hunting : s.link.servicePort.receiver = .hunting) :
    kickService s = setPort .service { s.link.servicePort with transmitter := some t, outstanding := none } s := by
  unfold kickService
  dsimp only
  rw [idle, waits, hunting]

theorem kickService_of_nothing
    (reply : ∀ t, s.link.servicePort.transmitter = none → s.link.servicePort.outstanding = some t →
      s.link.servicePort.receiver ≠ .hunting) : kickService s = s := by
  unfold kickService
  dsimp only
  split
  case h_1 idle waits hunting => exact absurd hunting (reply _ idle waits)
  case h_2 => rfl

/-! ### What each part of the end leaves to the others -/

/-- The service transmitter writes its own port alone. -/
theorem kickService_eq (s : State) :
    kickService s = { s with link := { s.link with servicePort := (kickService s).link.servicePort } } := by
  unfold kickService
  dsimp only
  split <;> rfl

/-- The line transmitter writes its own port, the report queue and the dropped count. -/
theorem kickLine_eq (s : State) :
    kickLine s = { s with link := { s.link with
      linePort := (kickLine s).link.linePort, reports := (kickLine s).link.reports,
      dropped := (kickLine s).link.dropped } } := by
  unfold kickLine
  dsimp only
  split <;> rfl

/-- What the end does to the line port, the report queue and the dropped count is the line transmitter's choice. -/
theorem finish_line_link (s : State) :
    (finish s).link.linePort = (kickLine s).link.linePort ∧ (finish s).link.reports = (kickLine s).link.reports
      ∧ (finish s).link.dropped = (kickLine s).link.dropped := by
  unfold finish
  rw [kickService_eq, ← refreshLamp_kickLine]
  exact ⟨rfl, rfl, rfl⟩

/-- What the end does to the service port is the service transmitter's choice. -/
theorem finish_servicePort (s : State) : (finish s).link.servicePort = (kickService s).link.servicePort := by
  unfold finish
  rw [← refreshLamp_kickLine, ← refreshLamp_kickService, ← kickLine_kickService, kickLine_eq]
  rfl

theorem finish_eq (s : State) :
    finish s = { s with
      line := { s.line with lamp := (finish s).line.lamp },
      link := { s.link with linePort := (finish s).link.linePort, servicePort := (finish s).link.servicePort,
                            reports := (finish s).link.reports, dropped := (finish s).link.dropped } } := by
  unfold finish
  rw [kickService_eq, kickLine_eq]
  rfl

/-! ### The obligation -/

/-- Settles O4: the line transmitter chooses by its port and the report queue, the service transmitter by its port, and
neither reads what the other writes; the lamp is `lampOf`. -/
theorem endOfACommandShowsTheLampAndBeginsFrames : Obligations.EndOfACommandShowsTheLampAndBeginsFrames := by
  unfold Obligations.EndOfACommandShowsTheLampAndBeginsFrames
  refine ⟨fun s => ⟨finish_eq s, ?line, ?service⟩, fun s => ?lamp⟩
  case line =>
    obtain ⟨port, reports, dropped⟩ := finish_line_link s
    rw [port, reports, dropped]
    split
    case h_1 idle waits => rw [kickLine_of_outstanding idle waits]; exact ⟨rfl, rfl, rfl⟩
    case h_2 idle free queued => rw [kickLine_of_report idle free queued]; exact ⟨rfl, rfl, rfl⟩
    case h_3 reply report =>
      rw [kickLine_of_nothing (fun t idle waits => reply t idle waits) report]
      exact ⟨rfl, rfl, rfl⟩
  case service =>
    rw [finish_servicePort]
    split
    case h_1 idle waits hunting => rw [kickService_of_outstanding idle waits hunting]; rfl
    case h_2 reply => rw [kickService_of_nothing reply]
  case lamp =>
    rw [finish_line]
    refine ⟨fun run => ?_, fun moving => ?_, fun resting => ?_, rfl, fun set => ?_, fun clear => ?_⟩
    · simp only [lampOf, run]
    · rcases moving with state | state <;> simp only [lampOf, state]
    · rcases resting with state | state <;> simp only [lampOf, state]
    · exact if_pos (Option.isSome_iff_ne_none.mpr set)
    · simp [lampOf, clear]

end Sys2Proof.Machine
end

section
/-! PROOF. R37, R39: reason sets and the lane that follows from them. -/

namespace Sys2Proof.Machine

/-! ### One reason, one bit -/

theorem reasonCode_eq (r : Reason) : reasonCode r = r.ctorIdx + 1 := by cases r <;> rfl

theorem reasonCode_injective : Function.Injective reasonCode := fun q r same => by
  rw [reasonCode_eq, reasonCode_eq] at same
  rw [← Reason.ofNat_ctorIdx q, ← Reason.ofNat_ctorIdx r, Nat.succ.inj same]

/-- Every bit of the 21 codes is some reason's (Table 2.4). -/
theorem exists_reasonCode {i : Nat} (lt : i < 21) : ∃ q, reasonCode q - 1 = i :=
  ⟨Reason.ofNat i, by interval_cases i <;> rfl⟩

theorem hasReason_reasonBit (r q : Reason) : hasReason (reasonBit r) q = decide (q = r) := by
  have bound (x : Reason) : 1 ≤ reasonCode x ∧ reasonCode x ≤ 21 := by cases x <;> decide
  have bit : hasReason (reasonBit r) q = decide (reasonCode q = reasonCode r) := by
    have := bound q
    have := bound r
    simp only [hasReason, reasonBit, BitVec.natCast_eq_ofNat, BitVec.getLsbD_ofNat, Nat.one_shiftLeft,
      Nat.testBit_two_pow, ← Bool.decide_and, decide_eq_decide]
    omega
  rw [bit, decide_eq_decide]
  exact reasonCode_injective.eq_iff

theorem hasReason_addReason (rs : Reasons) (r q : Reason) :
    hasReason (addReason rs r) q = (hasReason rs q || decide (q = r)) := by
  rw [← hasReason_reasonBit]
  exact BitVec.getLsbD_or

/-- R37: a reason joins a set once. -/
theorem addReason_addReason (rs : Reasons) (r : Reason) : addReason (addReason rs r) r = addReason rs r := by
  unfold addReason
  rw [BitVec.or_assoc, BitVec.or_self]

/-! ### The classes (Table 2.4) -/

theorem hasReason_scrapReasons (q : Reason) : hasReason scrapReasons q = decide (reasonCode q ≤ 11) := by
  cases q <;> rfl

theorem hasReason_holdReasons (q : Reason) : hasReason holdReasons q = decide (12 ≤ reasonCode q) := by
  cases q <;> rfl

/-- A set meets a class exactly where it holds a reason of the class. -/
theorem and_ne_zero_iff {rs mask : Reasons} (codes : ∀ i, i < 24 → mask.getLsbD i = true → i < 21) :
    rs &&& mask ≠ 0 ↔ ∃ q, hasReason rs q = true ∧ hasReason mask q = true := by
  constructor
  · intro meets
    by_contra apart
    refine meets (BitVec.eq_of_getLsbD_eq fun i lt => ?_)
    rw [BitVec.getLsbD_and]
    by_contra set
    simp only [BitVec.ofNat_eq_ofNat, BitVec.getLsbD_zero, Bool.not_eq_false, Bool.and_eq_true] at set
    obtain ⟨q, rfl⟩ := exists_reasonCode (codes i lt set.2)
    exact apart ⟨q, set⟩
  · rintro ⟨q, held, inClass⟩ zero
    have : hasReason (rs &&& mask) q = true := by
      unfold hasReason at held inClass ⊢
      rw [BitVec.getLsbD_and, held, inClass]
      rfl
    rw [zero] at this
    simp [hasReason] at this

theorem meets_scrap_iff (rs : Reasons) : rs &&& scrapReasons ≠ 0 ↔ ∃ q, hasReason rs q = true ∧ reasonCode q ≤ 11 := by
  simp only [and_ne_zero_iff (by decide : ∀ i, i < 24 → scrapReasons.getLsbD i = true → i < 21), hasReason_scrapReasons,
    decide_eq_true_eq]

theorem meets_hold_iff (rs : Reasons) : rs &&& holdReasons ≠ 0 ↔ ∃ q, hasReason rs q = true ∧ 12 ≤ reasonCode q := by
  simp only [and_ne_zero_iff (by decide : ∀ i, i < 24 → holdReasons.getLsbD i = true → i < 21), hasReason_holdReasons,
    decide_eq_true_eq]

/-- Settles O33: a reason is one bit, and a class of reasons is a mask that a set meets or does not meet. -/
theorem reasonsDecideTheLane : Obligations.ReasonsDecideTheLane := by
  unfold Obligations.ReasonsDecideTheLane
  intro rs r
  refine ⟨hasReason_addReason rs r, addReason_addReason rs r, fun scrap => ?scrap, fun holdOnly some_held => ?hold,
    fun bare => ?accept⟩
  case scrap => exact if_pos ((meets_scrap_iff rs).mpr scrap)
  case hold =>
    obtain ⟨q, held⟩ := some_held
    have noScrap : ¬ rs &&& scrapReasons ≠ 0 := fun meets => by
      obtain ⟨x, present, low⟩ := (meets_scrap_iff rs).mp meets
      exact absurd (holdOnly x present) (by omega)
    exact (if_neg noScrap).trans (if_pos ((meets_hold_iff rs).mpr ⟨q, held, holdOnly q held⟩))
  case accept =>
    have noScrap : ¬ rs &&& scrapReasons ≠ 0 := fun meets => by
      obtain ⟨x, present, -⟩ := (meets_scrap_iff rs).mp meets
      simp [bare x] at present
    have noHold : ¬ rs &&& holdReasons ≠ 0 := fun meets => by
      obtain ⟨x, present, -⟩ := (meets_hold_iff rs).mp meets
      simp [bare x] at present
    exact (if_neg noScrap).trans (if_neg noHold)

end Sys2Proof.Machine
end

section
/-! PROOF. R65: the supply state follows the pressure and the minimum in force. -/

namespace Sys2Proof.Machine

variable {s : State}

/-! ### A grant writes waiting list, channels, selectors and pockets alone -/

theorem announceGrant_eq (p : PocketNo) (c : ChannelNo) (s : State) :
    announceGrant p c s = { s with pockets := (announceGrant p c s).pockets } := by
  unfold announceGrant
  dsimp only
  split <;> rfl

theorem grantOnce_eq (s : State) :
    grantOnce s = { s with
      gas := { s.gas with waiting := (grantOnce s).gas.waiting, channels := (grantOnce s).gas.channels,
                          selectors := (grantOnce s).gas.selectors },
      pockets := (grantOnce s).pockets } := by
  unfold grantOnce
  split
  · unfold grantChannel
    rw [announceGrant_eq]
    rfl
  · rfl

theorem grantSearch_eq (s : State) :
    grantSearch s = { s with
      gas := { s.gas with waiting := (grantSearch s).gas.waiting, channels := (grantSearch s).gas.channels,
                          selectors := (grantSearch s).gas.selectors },
      pockets := (grantSearch s).pockets } := by
  unfold grantSearch
  rw [grantOnce_eq, grantOnce_eq (grantOnce (grantOnce s)), grantOnce_eq (grantOnce s), grantOnce_eq s]

/-! ### The supply state -/

/-- The supply state becomes the judged one, and a change of it touches no input and no minimum. -/
theorem evaluateSupply_supply (s : State) :
    (evaluateSupply s).gas.supply = judgedSupply s.gas.supply s.inputs.pressure.toNat s.gas.minInForce
      ∧ (evaluateSupply s).gas.minInForce = s.gas.minInForce := by
  unfold evaluateSupply
  dsimp only
  split
  case isTrue same => exact ⟨same.symm, rfl⟩
  case isFalse =>
    split
    · rw [grantSearch_eq, sendReport_gas]
      exact ⟨rfl, rfl⟩
    · rw [sendReport_gas]
      exact ⟨rfl, rfl⟩

/-- Settles O20: the supply state becomes `judgedSupply`, and each line of R65's table is one of its branches. -/
theorem supplyStateFollowsThePressure : Obligations.SupplyStateFollowsThePressure := by
  unfold Obligations.SupplyStateFollowsThePressure
  intro kPa s
  obtain ⟨supply, minimum⟩ := evaluateSupply_supply { s with inputs := { s.inputs with pressure := kPa } }
  refine ⟨finish (changePressure kPa s), rfl, ?inputs, ?minimum, fun m ok min below => ?low, fun m ok min reaches => ?ok,
    fun noMin => ?noMinimum, fun m low min reaches => ?returns, fun m low min below => ?stays⟩
  case inputs =>
    rw [finish_inputs]
    exact (evaluateSupply_moves (Moves.refl _)).inputs
  all_goals rw [finish_gas]
  case minimum => exact minimum
  all_goals refine supply.trans ?_
  case low => simp [judgedSupply, ok, min, below]
  case ok => simp [judgedSupply, ok, min, reaches]
  case noMinimum => cases state : s.gas.supply <;> simp [judgedSupply, noMin]
  case returns => simp [judgedSupply, low, min, reaches]
  case stays => simp [judgedSupply, low, min, below]

end Sys2Proof.Machine
end

section
/-! PROOF. R27, R74 to R76, R80: the inputs of a head between crossings. -/

namespace Sys2Proof.Machine

variable {s : State} {p : PocketNo}

/-! ### The bell (R27, R80) -/

/-- An input that does not become active changes its level alone. -/
theorem not_becomes_active {active was : Bool} (h : active = false ∨ was = true) : (active && !was) = false := by
  rcases h with rfl | rfl
  · rfl
  · exact Bool.and_false active

theorem bellClosedActive_of_watching (watching : s.pockets[p].seatWatch = true) :
    bellClosedActive p s = setPocket p { s.pockets[p] with
      step := if s.pockets[p].step = .cupped then .seated else s.pockets[p].step, seatWatch := false } s := if_pos watching

theorem bellClosedActive_of_not_watching (shut : s.pockets[p].seatWatch = false) : bellClosedActive p s = s :=
  if_neg (by rw [shut]; decide)

/-- Settles O21: the active edge acts, through `bellClosedActive` and `bellOpenActive`; any other level is stored alone. -/
theorem bellInputsSeatAndCloseTheWatch : Obligations.BellInputsSeatAndCloseTheWatch := by
  unfold Obligations.BellInputsSeatAndCloseTheWatch
  constructor <;> intro p active s u
  rotate_left
  · refine ⟨fun on off => ?opens, fun still => ?openStays⟩
    case opens =>
      have level : bellOpenLevel p active s = bellOpenActive p u := if_pos (by rw [on, off]; rfl)
      exact congrArg (fun t => Host.Outcome.next (finish t)) level
    case openStays =>
      have level : bellOpenLevel p active s = u := if_neg (by rw [not_becomes_active still]; decide)
      rw [← level]
      rfl
  refine ⟨fun on off watching => ?seats, fun still => ?seatStays⟩
  case seats =>
    have level : bellClosedLevel p active s = bellClosedActive p u := if_pos (by rw [on, off]; rfl)
    rw [← bellClosedActive_of_watching (s := u) watching, ← level]
    rfl
  case seatStays =>
    have level : bellClosedLevel p active s = u := by
      rw [← or_assoc] at still
      rcases still with still | shut
      · exact if_neg (by rw [not_becomes_active still]; decide)
      · exact (ite_congr rfl (fun _ => bellClosedActive_of_not_watching (s := u) shut) fun _ => rfl).trans (ite_self _)
    rw [← level]
    rfl

/-! ### The jaw (R74 to R76) -/

/-- A package for the can that is in the pocket is written into its record (R38). -/
theorem deliver_of_can {r : CanRecord} {write : CanRecord → CanRecord} (can : s.pockets[p].content = .can r) :
    deliver p (canId r) write s = setPocket p { s.pockets[p] with content := .can (write r) } s := by
  unfold deliver
  rw [can]
  exact if_pos ⟨rfl, rfl⟩

/-- The stroke of a head with its condition set and its jaw timer stopped. -/
def withCondition (p : PocketNo) (st : Stroke) (condition : JawCondition) (s : State) : State :=
  setCrimp p { s.crimp[p] with stroke := some { st with condition := condition, jawTimer := none } } s

theorem jawClosedActive_of_no_stroke (bare : s.crimp[p].stroke = none) : jawClosedActive p s = s := by
  unfold jawClosedActive
  rw [bare]

theorem jawClosedActive_of_unmoved {st : Stroke} (stroke : s.crimp[p].stroke = some st)
    (unmoved : st.jawMode = .timed ∨ st.condition ≠ .waiting) : jawClosedActive p s = s := by
  unfold jawClosedActive
  rw [stroke]
  refine if_neg fun both => ?_
  rcases unmoved with timed | decided
  · simp [timed] at both
  · exact decided both.2

theorem jawClosedActive_of_calibration {st : Stroke} (stroke : s.crimp[p].stroke = some st)
    (confirmed : st.jawMode = .confirmed) (waiting : st.condition = .waiting) (kind : st.kind = .calibration) :
    jawClosedActive p s = withCondition p st .closed s := by
  obtain ⟨_, _, jawTime, _, timer, capture⟩ := st
  cases confirmed; cases waiting; cases kind
  unfold jawClosedActive
  rw [stroke]
  rfl

theorem jawClosedActive_of_can {st : Stroke} {r : CanRecord} (stroke : s.crimp[p].stroke = some st)
    (confirmed : st.jawMode = .confirmed) (waiting : st.condition = .waiting) (kind : st.kind = .can (canId r))
    (can : s.pockets[p].content = .can r) :
    jawClosedActive p s = setPocket p { s.pockets[p] with
      content := .can { r with jawClosePhase := some (phaseAt (highWater s.position) p) } }
      (withCondition p st .closed s) := by
  obtain ⟨_, _, jawTime, _, timer, capture⟩ := st
  cases confirmed; cases waiting; cases kind
  unfold jawClosedActive
  rw [stroke]
  exact deliver_of_can (s := withCondition p _ .closed s) can

theorem jawTimeout_of_timed {st : Stroke} (stroke : s.crimp[p].stroke = some st) (runs : st.jawTimer ≠ none)
    (waiting : st.condition = .waiting) (timed : st.jawMode = .timed) :
    jawTimeout p s = withCondition p st .closed s := by
  obtain ⟨kind, _, jawTime, _, timer, capture⟩ := st
  cases timed; cases waiting
  unfold jawTimeout
  rw [stroke]
  exact if_pos ⟨Option.isSome_iff_ne_none.mpr runs, rfl⟩

theorem jawTimeout_of_calibration {st : Stroke} (stroke : s.crimp[p].stroke = some st) (runs : st.jawTimer ≠ none)
    (waiting : st.condition = .waiting) (confirmed : st.jawMode = .confirmed) (kind : st.kind = .calibration) :
    jawTimeout p s = withCondition p st .timedOut s := by
  obtain ⟨_, _, jawTime, _, timer, capture⟩ := st
  cases confirmed; cases waiting; cases kind
  unfold jawTimeout
  rw [stroke]
  exact if_pos ⟨Option.isSome_iff_ne_none.mpr runs, rfl⟩

theorem jawTimeout_of_can {st : Stroke} {r : CanRecord} (stroke : s.crimp[p].stroke = some st) (runs : st.jawTimer ≠ none)
    (waiting : st.condition = .waiting) (confirmed : st.jawMode = .confirmed) (kind : st.kind = .can (canId r))
    (can : s.pockets[p].content = .can r) :
    jawTimeout p s = setPocket p { s.pockets[p] with
      content := .can { r with reasons := addReason r.reasons .jawTimeout } } (withCondition p st .timedOut s) := by
  obtain ⟨_, _, jawTime, _, timer, capture⟩ := st
  cases confirmed; cases waiting; cases kind
  unfold jawTimeout
  rw [stroke]
  exact (if_pos ⟨Option.isSome_iff_ne_none.mpr runs, rfl⟩).trans
    (deliver_of_can (s := withCondition p _ .timedOut s) can)

theorem followForce_of_open {st : Stroke} {peak : Nat} (n : Int) (stroke : s.crimp[p].stroke = some st)
    (capture : st.capture = some peak) :
    followForce p n s = setCrimp p
      { s.crimp[p] with stroke := some { st with capture := some (max peak (min 65535 n.toNat)) } } s := by
  unfold followForce
  rw [stroke]
  dsimp only
  rw [capture]
  rfl

theorem followForce_of_shut (n : Int)
    (shut : s.crimp[p].stroke = none ∨ ∃ st, s.crimp[p].stroke = some st ∧ st.capture = none) :
    followForce p n s = s := by
  unfold followForce
  rcases shut with bare | ⟨st, stroke, capture⟩
  · rw [bare]
  · rw [stroke]
    dsimp only
    rw [capture]

theorem jawClosedLevel_of_edge {active : Bool} (on : active = true) (off : s.inputs.jawClosed[p] = false) :
    jawClosedLevel p active s
      = jawClosedActive p { s with inputs := { s.inputs with jawClosed := s.inputs.jawClosed.set p active } } :=
  if_pos (by rw [on, off]; rfl)

theorem jawClosedLevel_of_no_edge {active : Bool} (still : active = false ∨ s.inputs.jawClosed[p] = true) :
    jawClosedLevel p active s = { s with inputs := { s.inputs with jawClosed := s.inputs.jawClosed.set p active } } :=
  if_neg (by rw [not_becomes_active still]; decide)

theorem exec_jawClosedInput (active : Bool) (s : State) :
    exec (.jawClosedInput p active) s = .next (finish (jawClosedLevel p active s)) := rfl

theorem exec_jawTimerExpiry (p : PocketNo) (s : State) :
    exec (.jawTimerExpiry p) s = .next (finish (jawTimeout p s)) := rfl

theorem exec_jawForceReading (n : Int) (s : State) :
    exec (.jawForceReading p n) s = .next (finish (followForce p n s)) := rfl

/-- R74: what a level of the jaw-closed input does to the stroke of its head. -/
theorem exec_jawClosedInput_of_unmoved (active : Bool) (s : State)
    (unmoved : active = false ∨ s.inputs.jawClosed[p] = true ∨ jawClosedActive p { s with inputs := { s.inputs with
      jawClosed := s.inputs.jawClosed.set p active } } = { s with inputs := { s.inputs with
      jawClosed := s.inputs.jawClosed.set p active } }) :
    exec (.jawClosedInput p active) s
      = .next (finish { s with inputs := { s.inputs with jawClosed := s.inputs.jawClosed.set p active } }) := by
  rw [exec_jawClosedInput]
  by_cases edge : active = false ∨ s.inputs.jawClosed[p] = true
  · rw [jawClosedLevel_of_no_edge edge]
  · obtain ⟨on, off⟩ := not_or.mp edge
    rw [← or_assoc] at unmoved
    rw [jawClosedLevel_of_edge (Bool.eq_true_of_not_eq_false on) (Bool.eq_false_of_not_eq_true off),
      unmoved.resolve_left edge]

/-- Settles O22: the stroke of the head decides what the jaw input, the jaw timer and a force reading do. -/
theorem jawEventsMoveTheStroke : Obligations.JawEventsMoveTheStroke := by
  unfold Obligations.JawEventsMoveTheStroke
  refine ⟨fun p active s => ?input, fun p st s stroke runs waiting => ?timer, fun p n s => ?reading⟩
  case input =>
    intro u v
    refine ⟨fun still => ?still, fun st stroke unmoved => ?unmoved,
      fun st on off stroke confirmed waiting kind => ?calibration,
      fun st r on off stroke confirmed waiting kind can => ?can⟩
    case still =>
      exact exec_jawClosedInput_of_unmoved active s (still.imp_right (Or.imp_right (jawClosedActive_of_no_stroke (s := u))))
    case unmoved =>
      exact exec_jawClosedInput_of_unmoved active s
        (Or.inr (Or.inr (jawClosedActive_of_unmoved (s := u) stroke unmoved)))
    case calibration =>
      rw [exec_jawClosedInput, jawClosedLevel_of_edge on off,
        jawClosedActive_of_calibration (s := u) stroke confirmed waiting kind]
      rfl
    case can =>
      rw [exec_jawClosedInput, jawClosedLevel_of_edge on off,
        jawClosedActive_of_can (s := u) stroke confirmed waiting kind can]
      rfl
  case timer =>
    intro closed out
    refine ⟨fun timed => ?timed, fun confirmed kind => ?calibration, fun r confirmed kind can => ?can⟩
    case timed => rw [exec_jawTimerExpiry, jawTimeout_of_timed stroke runs waiting timed]; rfl
    case calibration => rw [exec_jawTimerExpiry, jawTimeout_of_calibration stroke runs waiting confirmed kind]; rfl
    case can => rw [exec_jawTimerExpiry, jawTimeout_of_can stroke runs waiting confirmed kind can]; rfl
  case reading =>
    refine ⟨fun st peak stroke capture => ?force, fun shut => ?noForce⟩
    case force => rw [exec_jawForceReading, followForce_of_open n stroke capture]
    case noForce => rw [exec_jawForceReading, followForce_of_shut n shut]

end Sys2Proof.Machine
end

section
/-! PROOF. R111, R117, R118: the gate eye, the gate position sensor and the gate settle timer. -/

namespace Sys2Proof.Machine

variable {s : State}

theorem gateUnconfirmed_of_shut (shut : s.trail.watch = none) : gateUnconfirmed s = s := by
  unfold gateUnconfirmed
  rw [shut]

/-- An open watch whose command had no entry: a gate fault that names no can. -/
theorem gateUnconfirmed_of_no_entry {w : GateWatch} (watch : s.trail.watch = some w) (entry : w.entry = none) :
    gateUnconfirmed s = takeHaltCause .gateFault
      (sendReport (.gateFault s.trail.gateCommand s.inputs.gateSensor s.position.pitchCounter none)
        { s with trail := { s.trail with watch := none } }) := by
  unfold gateUnconfirmed
  rw [watch]
  dsimp only
  rw [watchedEntry, entry]
  rfl

/-- An open watch with an entry: the oldest entry of its discharge pitch is the one the report names. -/
theorem gateUnconfirmed_of_entry {w : GateWatch} {pitch : Word32} {a b : List TrailEntry} {e : TrailEntry}
    (watch : s.trail.watch = some w) (entry : w.entry = some pitch) (entries : s.trail.entries = a ++ e :: b)
    (its : e.dischargePitch = pitch) (first : ∀ x ∈ a, x.dischargePitch ≠ pitch) :
    gateUnconfirmed s = takeHaltCause .gateFault
      (sendReport (.gateFault s.trail.gateCommand s.inputs.gateSensor s.position.pitchCounter (entryCan e))
        { s with trail := { s.trail with
          watch := none, entries := updateEntry pitch (markEntry .gateUnconfirmed) s.trail.entries } }) := by
  have found : watchedEntry w s = some e := by
    unfold watchedEntry
    rw [entry]
    exact List.find?_eq_some_iff_append.mpr ⟨decide_eq_true its, a, b, entries, fun x mem => by simp [first x mem]⟩
  unfold gateUnconfirmed
  rw [watch]
  dsimp only
  rw [found, entry]
  rfl

theorem gateEyeLevel_eq (active : Bool) (s : State) :
    gateEyeLevel active s = { s with
      inputs := { s.inputs with gateEye := active },
      trail := { s.trail with eyeLatch := s.trail.eyeLatch || (active && !s.inputs.gateEye) } } := by
  unfold gateEyeLevel
  cases edge : active && !s.inputs.gateEye <;> simp [edge]

theorem gateSensorShows_eq (shown : Option GatePos) (s : State) :
    gateSensorShows shown s = { s with
      inputs := { s.inputs with gateSensor := shown },
      trail := { s.trail with watch := if shown = some s.trail.gateCommand then none else s.trail.watch } } := by
  unfold gateSensorShows
  by_cases shows : shown = some s.trail.gateCommand <;> simp [shows]

/-- Settles O31: eye and sensor write latch and watch, and a settle timer that runs out is `gateUnconfirmed`. -/
theorem gateInputsAndSettleTimerAct : Obligations.GateInputsAndSettleTimerAct := by
  unfold Obligations.GateInputsAndSettleTimerAct
  have expires (s : State) : exec .gateSettleTimerExpiry s = .next (finish (gateUnconfirmed s)) := rfl
  refine ⟨fun active s => ?eye, fun shown s => ?sensor, fun s => ⟨fun shut => ?shut, fun w watch entry => ?noEntry,
    fun w pitch a e b watch entry entries its first => ?entry⟩⟩
  case eye => rw [← gateEyeLevel_eq]; rfl
  case sensor => rw [← gateSensorShows_eq]; rfl
  case shut => rw [expires, gateUnconfirmed_of_shut shut]
  case noEntry => rw [expires, gateUnconfirmed_of_no_entry watch entry]
  case entry => rw [expires, gateUnconfirmed_of_entry watch entry entries its first]; rfl

end Sys2Proof.Machine
end

section
/-! SUPPORT. What a change of the line state and a drain cause write (R153, R157, R158), whatever the pockets hold. -/

namespace Sys2Proof.Machine

variable {s t : State}

/-- What a change of the line state leaves: the position counter but for the stall timer and the overspeed episode, and the
lots but for the changeover and its outcome. -/
structure LineMoves (s t : State) : Prop where
  position  : t.position = { s.position with
    stallTimer := t.position.stallTimer, overspeedOpen := t.position.overspeedOpen,
    overspeedRun := t.position.overspeedRun }
  trail     : t.trail = s.trail
  trace     : t.trace = s.trace
  lots      : t.lots = { s.lots with changeover := t.lots.changeover, lastOutcome := t.lots.lastOutcome }
  notArmed  : (∀ plan n counted, s.lots.changeover ≠ .armed plan n counted) → t.lots = s.lots
  gas       : t.gas = s.gas
  retired   : t.retirements = s.retirements
  config    : t.config = s.config
  inputs    : t.inputs = s.inputs
  recipes   : t.recipes = s.recipes

theorem LineMoves.refl (s : State) : LineMoves s s := ⟨rfl, rfl, rfl, rfl, fun _ => rfl, rfl, rfl, rfl, rfl, rfl⟩

theorem LineMoves.trans {u : State} (h : LineMoves s t) (k : LineMoves t u) : LineMoves s u :=
  ⟨by rw [k.position, h.position], k.trail.trans h.trail, k.trace.trans h.trace, by rw [k.lots, h.lots],
    fun bare => (k.notArmed (h.notArmed bare ▸ bare)).trans (h.notArmed bare), k.gas.trans h.gas, k.retired.trans h.retired,
    k.config.trans h.config, k.inputs.trans h.inputs, k.recipes.trans h.recipes⟩

theorem failChangeover_of_not_armed {cause : FailCause}
    (bare : ∀ plan n counted, s.lots.changeover ≠ .armed plan n counted) : failChangeover cause s = s := by
  unfold failChangeover
  split
  case h_1 armed => exact absurd armed (bare _ _ _)
  case h_2 => rfl

theorem failChangeover_of_armed {cause : FailCause} {plan : ChangePlan} {n : Nat} {counted : Vector Bool 24}
    (armed : s.lots.changeover = .armed plan n counted) :
    failChangeover cause s = sendReport (.changeFailed cause)
      { s with lots := { s.lots with changeover := .none, lastOutcome := some (.failed cause) } } := by
  unfold failChangeover
  rw [armed]

theorem endEpisode_lots (s : State) : (endEpisode s).lots = s.lots := by rw [endEpisode_eq]

/-- With no changeover ARMED the hand-offs of a change of line state leave the lots. -/
theorem handOffLine_lots_of_not_armed {before after : LineState}
    (bare : ∀ plan n counted, s.lots.changeover ≠ .armed plan n counted) :
    (handOffLine before after s).lots = s.lots := by
  unfold handOffLine
  dsimp only
  have told : (if runOrDrain before = true ∧ ¬runOrDrain after = true
      then endEpisode (if before = .run ∧ after ≠ .run then { s with infeedGate := false } else s)
      else (if before = .run ∧ after ≠ .run then { s with infeedGate := false } else s)).lots = s.lots := by
    split <;> (try rw [endEpisode_lots]) <;> split <;> rfl
  split
  · rw [failChangeover_of_not_armed (told.symm ▸ bare), told]
  · exact told

theorem handOffLine_lineMoves (before after : LineState) (h : LineMoves s t) : LineMoves s (handOffLine before after t) := by
  refine h.trans ⟨?_, ?_, ?_, ?_, handOffLine_lots_of_not_armed, ?_, ?_, ?_, ?_, ?_⟩ <;> rw [handOffLine_eq]

theorem sendReport_lineMoves (r : Report) (h : LineMoves s t) : LineMoves s (sendReport r t) := by
  refine h.trans ⟨?_, ?_, ?_, ?_, fun _ => ?_, ?_, ?_, ?_, ?_, ?_⟩ <;> rw [sendReport_eq]

theorem setLine_lineMoves (after : LineState) (drain : Option DrainCause) (h : LineMoves s t) :
    LineMoves s (setLine after drain t) := h.trans ⟨rfl, rfl, rfl, rfl, fun _ => rfl, rfl, rfl, rfl, rfl, rfl⟩

theorem interruptCalibration_elsewhere (p : PocketNo) (s : State) :
    interruptCalibration p s = { s with
      pockets := (interruptCalibration p s).pockets, crimp := (interruptCalibration p s).crimp,
      heads := (interruptCalibration p s).heads, link := (interruptCalibration p s).link } := by
  unfold interruptCalibration
  split
  · rw [interruptHead_eq]
    rfl
  · rfl

/-- What an operation on heads does at most: it writes pockets, strokes and heads, and reports. -/
def HeadsOnly (s t : State) : Prop :=
  t = { s with pockets := t.pockets, crimp := t.crimp, heads := t.heads, link := t.link }

theorem HeadsOnly.trans {u : State} (h : HeadsOnly s t) (k : HeadsOnly t u) : HeadsOnly s u := by
  unfold HeadsOnly at *
  rw [k, h]

/-- Interrupted calibrations write pockets, strokes and heads, and report. -/
theorem forHeads_interruptCalibration_elsewhere (s : State) : HeadsOnly s (forHeads interruptCalibration s) :=
  List.foldlRecOn (motive := HeadsOnly s) _ _ rfl fun t only p _ => only.trans (interruptCalibration_elsewhere p t)

theorem forHeads_interruptCalibration_lineMoves (h : LineMoves s t) :
    LineMoves s (forHeads interruptCalibration t) := by
  refine h.trans ⟨?_, ?_, ?_, ?_, fun _ => ?_, ?_, ?_, ?_, ?_, ?_⟩ <;> rw [forHeads_interruptCalibration_elsewhere]

theorem changeLine_lineMoves {also : State → State} (each : ∀ u, LineMoves u (also u)) (after : LineState)
    (drain : Option DrainCause) (event : LineEvent) (h : LineMoves s t) :
    LineMoves s (changeLine after drain event also t) :=
  sendReport_lineMoves _ (handOffLine_lineMoves _ _ ((setLine_lineMoves after drain h).trans (each _)))

/-- A change of the line state shows the new state, whatever the owner hands on besides, as long as that leaves the line. -/
theorem changeLine_line {also : State → State} (leaves : ∀ u, (also u).line = u.line) (after : LineState)
    (drain : Option DrainCause) (event : LineEvent) (s : State) :
    (changeLine after drain event also s).line = (setLine after drain s).line := by
  unfold changeLine
  dsimp only
  rw [sendReport_line, handOffLine_eq]
  exact leaves _

theorem changeLine_id_line (after : LineState) (drain : Option DrainCause) (event : LineEvent) (s : State) :
    (changeLine after drain event id s).line = (setLine after drain s).line := changeLine_line (fun _ => rfl) _ _ _ s

theorem changeLine_id_lineMoves (after : LineState) (drain : Option DrainCause) (event : LineEvent) (s : State) :
    LineMoves s (changeLine after drain event id s) := changeLine_lineMoves LineMoves.refl _ _ _ (LineMoves.refl s)

theorem changeLine_pockets (after : LineState) (drain : Option DrainCause) (event : LineEvent) (s : State) :
    (changeLine after drain event id s).pockets = s.pockets := by rw [changeLine_eq]

/-- R23: leaving RUN closes the infeed gate. -/
theorem changeLine_infeedGate_of_run {after : LineState} {drain : Option DrainCause} {event : LineEvent}
    (run : s.line.state = .run) (leaves : after ≠ .run) : (changeLine after drain event id s).infeedGate = false := by
  have endKeeps (u : State) : (endEpisode u).infeedGate = u.infeedGate := by rw [endEpisode_eq]
  have failKeeps (u : State) : (failChangeover .lineStop u).infeedGate = u.infeedGate := by rw [failChangeover_eq]
  unfold changeLine
  dsimp only
  rw [sendReport_infeedGate, run]
  unfold handOffLine
  dsimp only
  have closed (u : State) : (if LineState.run = .run ∧ after ≠ .run then { u with infeedGate := false } else u)
      = { u with infeedGate := false } := if_pos ⟨rfl, leaves⟩
  rw [closed]
  split <;> split <;> simp only [endKeeps, failKeeps]

theorem completeDrain_line (s : State) : (completeDrain s).line = (setLine .stopped none s).line :=
  changeLine_line (fun u => by rw [forHeads_interruptCalibration_elsewhere]) _ _ _ s

theorem completeDrain_lineMoves (h : LineMoves s t) : LineMoves s (completeDrain t) :=
  changeLine_lineMoves (fun u => forHeads_interruptCalibration_lineMoves (LineMoves.refl u)) _ _ _ h

theorem checkDrain_lineMoves (h : LineMoves s t) : LineMoves s (checkDrain t) := by
  unfold checkDrain
  split
  · exact completeDrain_lineMoves h
  · exact h

theorem takeDrainCause_of_starting {cause : DrainCause} (starting : s.line.state = .starting) :
    takeDrainCause cause s = changeLine .stopped none (.drain cause) id s := by
  unfold takeDrainCause
  rw [starting]

theorem takeDrainCause_run {cause : DrainCause} (run : s.line.state = .run) :
    takeDrainCause cause s = checkDrain (changeLine .drain (some cause) (.drain cause) id s) := by
  unfold takeDrainCause
  rw [run]

theorem takeDrainCause_lineMoves {cause : DrainCause} (h : LineMoves s t) : LineMoves s (takeDrainCause cause t) := by
  unfold takeDrainCause
  split
  · exact checkDrain_lineMoves (changeLine_lineMoves LineMoves.refl _ _ _ h)
  · exact changeLine_lineMoves LineMoves.refl _ _ _ h
  · exact h

/-- R157: a drain cause in RUN while pockets or trail still hold something. -/
theorem takeDrainCause_run_of_busy {cause : DrainCause} (run : s.line.state = .run)
    (busy : ¬ (pocketsEmpty s = true ∧ s.trail.entries = [])) :
    takeDrainCause cause s = changeLine .drain (some cause) (.drain cause) id s := by
  rw [takeDrainCause_run run]
  refine if_neg fun ⟨_, pockets, entries⟩ => busy ⟨?_, ?_⟩
  · simpa only [pocketsEmpty, changeLine_pockets] using pockets
  · rwa [(changeLine_id_lineMoves _ _ _ s).trail] at entries

/-- R158: a drain cause in RUN with nothing left to drain completes at once. -/
theorem takeDrainCause_run_of_empty {cause : DrainCause} (run : s.line.state = .run) (pockets : pocketsEmpty s = true)
    (entries : s.trail.entries = []) :
    takeDrainCause cause s = completeDrain (changeLine .drain (some cause) (.drain cause) id s) := by
  rw [takeDrainCause_run run]
  refine if_pos ⟨?_, ?_, ?_⟩
  · rw [changeLine_id_line]
    rfl
  · simpa only [pocketsEmpty, changeLine_pockets] using pockets
  · rwa [(changeLine_id_lineMoves _ _ _ s).trail]

end Sys2Proof.Machine
end

section
/-! PROOF. R14 to R16, R155 to R158, R162, R164, R165: the events of drive, standstill, interlock and line timers, and the
drain causes. -/

namespace Sys2Proof.Machine

/-- Settles O36: in RUN the drain goes on to STOPPED exactly where nothing is left to drain; every other line state is one
change, or none. -/
theorem drainCauseActsByTheLineState : Obligations.DrainCauseActsByTheLineState := by
  unfold Obligations.DrainCauseActsByTheLineState
  intro cause s t
  refine ⟨fun run busy => ?busy, fun run pockets entries => ?empty, fun starting => ?starting, fun other => ?other⟩
  case busy =>
    have drains : t = changeLine .drain (some cause) (.drain cause) id s := takeDrainCause_run_of_busy run busy
    rw [drains, changeLine_id_line, changeLine_pockets, changeLine_infeedGate_of_run run (by decide),
      (changeLine_id_lineMoves _ _ _ s).trail]
    exact ⟨rfl, rfl, rfl, rfl, rfl, rfl, rfl⟩
  case empty =>
    have stops : t = completeDrain (changeLine .drain (some cause) (.drain cause) id s) :=
      takeDrainCause_run_of_empty run pockets entries
    rw [stops, completeDrain_line]
    exact ⟨rfl, rfl, rfl⟩
  case starting =>
    have stops : t = changeLine .stopped none (.drain cause) id s := takeDrainCause_of_starting starting
    rw [stops, changeLine_id_line]
    exact ⟨rfl, rfl, rfl⟩
  case other =>
    refine takeDrainCause_of_not_running (fun run => ?_) fun starting => ?_
    · simp [run] at other
    · simp [starting] at other

/-- R160: a line in HALT whose turret stands still enters STOPPED; nothing but the line and what it hands on changes. -/
theorem checkStandstill_standing {s : State} (halt : s.line.state = .halt) (still : s.position.standstill = true) :
    checkStandstill s = changeLine .stopped none .standstill id s := if_pos ⟨halt, still⟩

/-- Settles O13: each event acts by its timer or by the change of its input, and otherwise stores its level alone. -/
theorem driveAndStandstillEventsAct : Obligations.DriveAndStandstillEventsAct := by
  unfold Obligations.DriveAndStandstillEventsAct
  refine ⟨fun s => ?stall, fun ready s changes => ?drive, fun s => ?standstill⟩
  case stall =>
    have expires : exec .stallTimerExpiry s = .next (finish (stallExpires s)) := rfl
    rw [expires]
    unfold stallExpires
    refine ⟨fun stopped => ?_, fun runs => ?_⟩
    · rw [stopped]; rfl
    · rw [if_pos (Option.isSome_iff_ne_none.mpr runs)]
  case drive =>
    intro u
    have changed : exec (.driveReadyChange ready) s = .next (finish (if u.line.runPermit = true then
        (if ready = true then { u with position := { u.position with stallTimer := some u.config.stallTime } }
        else takeHaltCause .driveFault { u with position := { u.position with stallTimer := none } }) else u)) :=
      congrArg (fun t => Host.Outcome.next (finish t)) (if_neg changes)
    rw [changed]
    refine ⟨fun permit => ?_, fun permit on => ?_, fun permit off => ?_⟩
    · rw [if_neg (by rw [show u.line.runPermit = false from permit]; decide)]
    · rw [if_pos permit, if_pos on]
    · rw [if_pos permit, if_neg (by rw [off]; decide)]
  case standstill =>
    intro u
    have expires : exec .standstillTimerExpiry s = .next (finish (standstillExpires s)) := rfl
    rw [expires]
    refine ⟨fun stopped => ?_, fun runs running => ?_, fun runs halt => ?_⟩
    · unfold standstillExpires
      rw [stopped]; rfl
    · have runsOut : standstillExpires s = checkStandstill u := if_pos (Option.isSome_iff_ne_none.mpr runs)
      have stays : checkStandstill u = u := if_neg fun both => running both.1
      rw [runsOut, stays]
    · have runsOut : standstillExpires s = checkStandstill u := if_pos (Option.isSome_iff_ne_none.mpr runs)
      refine ⟨_, rfl, ?_⟩
      rw [runsOut, checkStandstill_standing (s := u) halt rfl, finish_position, finish_line, finish_pockets, finish_trail,
        finish_gas, changeLine_eq]
      exact ⟨rfl, rfl, rfl, rfl, rfl, rfl, rfl, rfl⟩

/-! ### The interlock inputs (R162) -/

theorem setLatch_of_set {input : InterlockInput} {s : State} (set : s.line.latch ≠ none) : setLatch input s = s := by
  unfold setLatch
  split
  · rfl
  · contradiction

theorem setLatch_of_clear {input : InterlockInput} {s : State} (clear : s.line.latch = none) :
    setLatch input s = sendReport (.interlockSet (latchCauseOf input) s.line.state)
      { s with line := { s.line with latch := some (latchCauseOf input) } } := by
  unfold setLatch
  rw [clear]

theorem exec_interlockInputActive (input : InterlockInput) (active : Bool) (s : State) :
    exec (.interlockInputActive input active) s = .next (finish
      (if (active && !interlockLevel input s) = true then
        takeHaltCause (haltCauseOf input) (setLatch input (setInterlockLevel input active s))
      else setInterlockLevel input active s)) := rfl

/-- Settles O34: the active edge sets the latch and hands the halt cause; any other level is stored alone. -/
theorem interlockInputSetsTheLatch : Obligations.InterlockInputSetsTheLatch := by
  unfold Obligations.InterlockInputSetsTheLatch
  intro input active s u was cause halt
  have level : setInterlockLevel input active s = u := by cases input <;> rfl
  have before : interlockLevel input s = was := by cases input <;> rfl
  have latchCause : latchCauseOf input = cause := by cases input <;> rfl
  have haltCause : haltCauseOf input = halt := by cases input <;> rfl
  rw [exec_interlockInputActive, level, before, haltCause]
  refine ⟨fun still => ?still, fun on off set => ?set, fun on off clear => ?clear⟩
  case still => rw [if_neg (by rw [not_becomes_active still]; decide)]
  all_goals rw [if_pos (by rw [on, off]; rfl)]
  case set => rw [setLatch_of_set (s := u) set]
  case clear => rw [setLatch_of_clear (s := u) clear, latchCause]

/-! ### The quiet timer (R164, R165) -/

theorem setSafe_line (s : State) : (setSafe s).line = { s.line with safe := true } := by
  unfold setSafe
  split
  case isTrue safe => rw [← safe]
  case isFalse => rw [failChangeover_eq]; rfl

theorem setSafe_leaves (s : State) : (setSafe s).pockets = s.pockets ∧ (setSafe s).trail = s.trail := by
  unfold setSafe
  split
  · exact ⟨rfl, rfl⟩
  · rw [failChangeover_eq]
    exact ⟨rfl, rfl⟩

theorem setSafe_speedCeiling {s : State} (clear : s.line.safe = false) :
    (setSafe s).position.speedCeiling = max (recipeCeiling s) s.config.safeCeiling := by
  unfold setSafe
  rw [clear, if_neg (by decide), failChangeover_eq]
  rfl

theorem setSafe_lots_of_armed {s : State} {plan : ChangePlan} {n : Nat} {counted : Vector Bool 24}
    (clear : s.line.safe = false) (armed : s.lots.changeover = .armed plan n counted) :
    (setSafe s).lots = { s.lots with changeover := .none, lastOutcome := some (.failed .safeProfile) } := by
  unfold setSafe
  rw [clear, if_neg (by decide), failChangeover_of_armed (by exact armed), sendReport_lots]
  rfl

/-- The line at stage 2, with its report, before the safe flag is looked at (R164). -/
def quietReported (s : State) : State :=
  sendReport (.linkQuiet 2 s.config.quietTime s.line.state)
    { s with line := { s.line with stage := 2, quietTimer := none } }

theorem quietReported_eq (s : State) :
    quietReported s = { s with
      line := { s.line with stage := 2, quietTimer := none }, link := (quietReported s).link } := by
  unfold quietReported
  rw [sendReport_eq]

theorem quietExpires_of_stopped {s : State} (stopped : s.line.quietTimer = none) : quietExpires s = s :=
  if_neg (by rw [stopped]; decide)

theorem quietExpires_of_stage0 {s : State} (runs : s.line.quietTimer ≠ none) (stage : s.line.stage = 0) :
    quietExpires s = quietStage1 s := by
  unfold quietExpires
  rw [if_pos (Option.isSome_iff_ne_none.mpr runs), stage]
  rfl

theorem quietExpires_of_stage1 {s : State} (runs : s.line.quietTimer ≠ none) (stage : s.line.stage = 1) :
    quietExpires s = takeDrainCause .linkQuiet (setSafe (quietReported s)) := by
  unfold quietExpires
  rw [if_pos (Option.isSome_iff_ne_none.mpr runs), stage]
  rfl

/-- Settles O35: a timer that runs hands SYNC_TIMEOUT, or takes the quiet stages; at stage 2 report, safe flag and drain cause
follow one another, and the drain acts as O36 says. -/
theorem syncAndQuietTimersExpire : Obligations.SyncAndQuietTimersExpire := by
  unfold Obligations.SyncAndQuietTimersExpire
  refine ⟨fun s => ⟨fun runs starting => ?halts, fun still => ?still⟩, fun s => ?quiet⟩
  case halts =>
    have expires : syncExpires s = takeHaltCause .syncTimeout s :=
      if_pos ⟨Option.isSome_iff_ne_none.mpr runs, starting⟩
    rw [← expires]
    rfl
  case still =>
    have stays : syncExpires s = s := if_neg fun ⟨runs, starting⟩ =>
      still.elim (Option.isSome_iff_ne_none.mp runs) fun other => other starting
    exact congrArg (fun t => Host.Outcome.next (finish t)) stays
  case quiet =>
    have expires : exec .quietTimerExpiry s = .next (finish (quietExpires s)) := rfl
    rw [expires]
    refine ⟨fun stopped => by rw [quietExpires_of_stopped stopped],
      fun runs stage => by rw [quietExpires_of_stage0 runs stage]; rfl, fun runs stage => ?_⟩
    rw [quietExpires_of_stage1 runs stage]
    refine ⟨_, rfl, ?_⟩
    let u := quietReported s
    let v := setSafe u
    have reported : u = { s with line := { s.line with stage := 2, quietTimer := none }, link := u.link } :=
      quietReported_eq s
    have safeLine : v.line = { u.line with safe := true } := setSafe_line u
    have pockets : v.pockets = s.pockets := (setSafe_leaves u).1.trans (by rw [reported])
    have trail : v.trail = s.trail := (setSafe_leaves u).2.trans (by rw [reported])
    have line : v.line.state = s.line.state := by rw [safeLine, reported]
    have empties : pocketsEmpty v = pocketsEmpty s := by unfold pocketsEmpty; rw [pockets]
    have safe : u.line.safe = s.line.safe := by rw [reported]
    obtain ⟨supervised, kept⟩ : (v.line.stage, v.line.quietTimer) = (2, none) ∧ v.line.safe = true := by
      rw [safeLine, reported]
      exact ⟨rfl, rfl⟩
    have moves : Moves v (takeDrainCause .linkQuiet v) := takeDrainCause_moves (Moves.refl v)
    have lineMoves : LineMoves v (takeDrainCause .linkQuiet v) := takeDrainCause_lineMoves (LineMoves.refl v)
    obtain ⟨busy, empty, starting, other⟩ := drainCauseActsByTheLineState .linkQuiet v
    rw [finish_line, finish_lots, finish_position]
    obtain ⟨stage2, timer⟩ := Prod.mk.inj (moves.supervision.trans supervised)
    refine ⟨stage2, timer, moves.safe.trans kept, fun clear plan n counted armed => ?armed, fun clear => ?ceiling,
      fun run holds => ?busy, fun run bare entries => ?empty, fun starts => ?starting, fun run starts => ?other⟩
    case armed =>
      have lots : v.lots = { u.lots with changeover := .none, lastOutcome := some (.failed .safeProfile) } :=
        setSafe_lots_of_armed (plan := plan) (n := n) (counted := counted) (safe.trans clear) (by rw [reported]; exact armed)
      have bare : ∀ plan n counted, v.lots.changeover ≠ .armed plan n counted := fun _ _ _ => by rw [lots]; nofun
      rw [lineMoves.notArmed bare, lots]
      exact ⟨rfl, rfl⟩
    case ceiling =>
      rw [lineMoves.position]
      refine (setSafe_speedCeiling (s := u) (safe.trans clear)).trans ?_
      rw [reported]
      rfl
    case busy =>
      obtain ⟨drain, cause, permit, -⟩ := busy (line.trans run) (by rwa [empties, trail])
      exact ⟨drain, cause, permit⟩
    case empty => exact empty (line.trans run) (empties.trans bare) (by rwa [trail])
    case starting =>
      obtain ⟨stopped, -, permit⟩ := starting (line.trans starts)
      exact ⟨stopped, permit⟩
    case other =>
      have rests : takeDrainCause .linkQuiet v = v :=
        takeDrainCause_of_not_running (line.symm ▸ run) (line.symm ▸ starts)
      rw [rests]
      exact line

end Sys2Proof.Machine
end

section
/-! PROOF. R3, R4, R155: index pulses and the step count limit in each sync state. -/

namespace Sys2Proof.Machine

variable {s : State}

/-- The state at the pulse that completes synchronisation, before a line in STARTING enters RUN (R4). -/
def syncedState (s : State) : State :=
  { s with
    position := { s.position with
      sync := .synced, position := 0, backlash := 0, stepCount := 0, pitchTime := none, lastBoundary := none,
      overspeedRun := 0, overspeedOpen := false },
    trail := { s.trail with eyeLatch := false } }

theorem takeIndex_of_ignored (ignored : indexTaken s.position = false) : takeIndex s = s :=
  if_neg (by rw [ignored]; decide)

theorem indexTaken_of_count (flat : s.position.backlash = 0) (count : s.position.stepCount ≠ 0) :
    indexTaken s.position = true := by simp [indexTaken, flat, count]

theorem indexTaken_of_open (flat : s.position.backlash = 0)
    (sync : s.position.sync = .unsynced ∨ s.position.sync = .faulted) : indexTaken s.position = true := by
  rcases sync with sync | sync <;> simp [indexTaken, flat, sync]

theorem takeIndex_of_unsynced (flat : s.position.backlash = 0) (sync : s.position.sync = .unsynced) :
    takeIndex s = { s with position := { s.position with sync := .provisional, stepCount := 0 } } := by
  unfold takeIndex
  rw [if_pos (indexTaken_of_open flat (Or.inl sync)), sync]

theorem takeIndex_of_faulted (flat : s.position.backlash = 0) (sync : s.position.sync = .faulted) : takeIndex s = s := by
  unfold takeIndex
  rw [if_pos (indexTaken_of_open flat (Or.inr sync)), sync]

theorem takeIndex_of_provisional (flat : s.position.backlash = 0) (count : s.position.stepCount ≠ 0)
    (sync : s.position.sync = .provisional) :
    takeIndex s = if s.position.stepCount = 2880 then reachSynced s else setStepCount 0 s := by
  unfold takeIndex
  rw [if_pos (indexTaken_of_count flat count), sync]

theorem takeIndex_of_synced (flat : s.position.backlash = 0) (count : s.position.stepCount ≠ 0)
    (sync : s.position.sync = .synced) :
    takeIndex s = if s.position.stepCount = 2880 then setStepCount 0 s else positionFault .indexMismatch s := by
  unfold takeIndex
  rw [if_pos (indexTaken_of_count flat count), sync]

theorem reachSynced_of_starting (starting : s.line.state = .starting) :
    reachSynced s = enterRun .synced (syncedState s) := if_pos starting

theorem reachSynced_of_not_starting (other : s.line.state ≠ .starting) : reachSynced s = syncedState s := if_neg other

theorem takeStepLimit_of_below (below : s.position.stepCount < 2888) : takeStepLimit s = s :=
  if_neg (Nat.not_le.mpr below)

theorem takeStepLimit_of_provisional (limit : 2888 ≤ s.position.stepCount) (sync : s.position.sync = .provisional) :
    takeStepLimit s = dropProvisional s := by
  unfold takeStepLimit
  rw [if_pos limit, sync]

theorem takeStepLimit_of_synced (limit : 2888 ≤ s.position.stepCount) (sync : s.position.sync = .synced) :
    takeStepLimit s = positionFault .missingIndex s := by
  unfold takeStepLimit
  rw [if_pos limit, sync]

theorem takeStepLimit_of_open (sync : s.position.sync = .unsynced ∨ s.position.sync = .faulted) :
    takeStepLimit s = s := by
  unfold takeStepLimit
  split
  · rcases sync with sync | sync <;> rw [sync]
  · rfl

/-- R69, R155: entering RUN leaves the sync state, and with a channel in service the line stays in RUN. -/
theorem enterRun_sync (event : LineEvent) (s : State) :
    (enterRun event s).position.sync = s.position.sync
      ∧ (channelsInService s ≠ 0 → (enterRun event s).line = (setLine .run none s).line) := by
  have moves : LineMoves s (changeLine .run none event id s) := changeLine_id_lineMoves _ _ _ s
  unfold enterRun checkInService
  refine ⟨?_, fun serving => ?_⟩
  · split
    · rw [(takeDrainCause_lineMoves moves).position]
    · rw [moves.position]
  · rw [if_neg, changeLine_id_line]
    rintro ⟨-, none_serving⟩
    exact serving (by simpa only [channelsInService, moves.gas] using none_serving)

/-- Settles O10: one equation of `takeIndex` or `takeStepLimit` for each cell of Table 1.2. -/
theorem indexPulseAndStepLimitActBySyncState : Obligations.IndexPulseAndStepLimitActBySyncState := by
  unfold Obligations.IndexPulseAndStepLimitActBySyncState
  intro s count synced
  have pulse : exec .indexPulse s = .next (finish (takeIndex s)) := rfl
  have limit : exec .stepCountReaches2888 s = .next (finish (takeStepLimit s)) := rfl
  rw [pulse, limit]
  refine ⟨fun deep => ?deep, fun flat sync => ?unsynced, fun flat sync => ?faulted, fun flat sync zero => ?zero,
    fun flat sync full resting => ?reaches, fun flat sync full starting => ?starts, fun flat sync some_count short => ?again,
    fun flat sync full => ?agrees, fun flat sync some_count short => ?mismatch, fun below => ?below, fun top sync => ?drops,
    fun top sync => ?missing, fun sync => ?rests⟩
  case deep => rw [takeIndex_of_ignored (by simp [indexTaken, deep])]
  case unsynced => rw [takeIndex_of_unsynced flat sync]
  case faulted => rw [takeIndex_of_faulted flat sync]
  case zero => rw [takeIndex_of_ignored (by rcases sync with sync | sync <;> simp [indexTaken, flat, sync, show s.position.stepCount = 0 from zero])]
  case reaches =>
    rw [takeIndex_of_provisional flat (by omega) sync, if_pos full, reachSynced_of_not_starting resting]
    rfl
  case starts =>
    rw [takeIndex_of_provisional flat (by omega) sync, if_pos full, reachSynced_of_starting starting]
    obtain ⟨kept, runs⟩ := enterRun_sync .synced synced
    refine ⟨rfl, kept, fun serving => ?_⟩
    rw [runs serving]
    exact ⟨rfl, rfl, rfl⟩
  case again =>
    rw [takeIndex_of_provisional flat some_count sync, if_neg short]
    rfl
  case agrees =>
    rw [takeIndex_of_synced flat (by omega) sync, if_pos full]
    rfl
  case mismatch => rw [takeIndex_of_synced flat some_count sync, if_neg short]
  case below => rw [takeStepLimit_of_below below]
  case drops =>
    rw [takeStepLimit_of_provisional top sync]
    rfl
  case missing => rw [takeStepLimit_of_synced top sync]
  case rests => rw [takeStepLimit_of_open sync]

end Sys2Proof.Machine
end

section
/-! PROOF. R51, R55: meter errors and the no-flow timer in each channel state. -/

namespace Sys2Proof.Machine

variable {s : State} {c : ChannelNo}

theorem tareStart_tareQueue (s : State) : (tareStart s).gas.tareQueue = s.gas.tareQueue := by
  unfold tareStart
  split
  · split <;> rfl
  · rfl

/-- R62: a channel that enters FAULT leaves the tare queue, which closes up behind it. -/
theorem enterFault_tareQueue (c : ChannelNo) (cause : ChannelFault) (s : State) :
    (enterFault c cause s).gas.tareQueue = s.gas.tareQueue.erase c := by
  rw [enterFault_eq, checkInService_gas, tareStart_tareQueue, reportChannel_gas]
  rfl

theorem takeMeterError_of_charging (state : s.gas.channels[c].state = .charging) :
    takeMeterError c s = closeCharge c .meter s := by
  unfold takeMeterError
  rw [state]

theorem takeMeterError_of_settling (state : s.gas.channels[c].state = .settling) :
    takeMeterError c s = setChannel c { s.gas.channels[c] with settleError := true } s := by
  unfold takeMeterError
  rw [state]
  rfl

theorem takeMeterError_of_valve_shut (state : s.gas.channels[c].state = .idle ∨ s.gas.channels[c].state = .tareWait
    ∨ s.gas.channels[c].state = .tare) : takeMeterError c s = enterFault c .meter s := by
  unfold takeMeterError
  rcases state with state | state | state <;> rw [state]

theorem takeMeterError_of_out_of_service (state : s.gas.channels[c].state = .fault ∨ s.gas.channels[c].state = .off) :
    takeMeterError c s = s := by
  unfold takeMeterError
  rcases state with state | state <;> rw [state]

theorem noFlowExpires_of_charging (runs : s.gas.channels[c].noFlowTimer ≠ none)
    (charging : s.gas.channels[c].state = .charging) : noFlowExpires c s = closeCharge c .noFlow s :=
  (if_pos (Option.isSome_iff_ne_none.mpr runs)).trans (if_pos charging)

theorem noFlowExpires_of_still (still : s.gas.channels[c].noFlowTimer = none ∨ s.gas.channels[c].state ≠ .charging) :
    noFlowExpires c s = s := by
  unfold noFlowExpires
  rcases still with stopped | other
  · exact if_neg (by rw [stopped]; decide)
  · exact (congrArg (ite _ · s) (if_neg other)).trans (ite_self s)

/-- Settles O17: the state of the channel decides what a meter error does, and a running no-flow timer closes a charge. -/
theorem meterErrorAndNoFlowActByChannelState : Obligations.MeterErrorAndNoFlowActByChannelState := by
  unfold Obligations.MeterErrorAndNoFlowActByChannelState
  refine ⟨fun c s => ?meter, fun c s => ⟨fun runs charging => ?closes, fun still => ?still⟩⟩
  case meter =>
    intro ch
    have error : exec (.meterError c) s = .next (finish (takeMeterError c s)) := rfl
    rw [error]
    refine ⟨fun state => ?charging, fun state => ?settling, fun state once => ?faults, fun state => ?out⟩
    case charging => rw [takeMeterError_of_charging state]
    case settling => rw [takeMeterError_of_settling state]
    case faults =>
      refine ⟨_, rfl, ?_⟩
      rw [takeMeterError_of_valve_shut state, finish_gas, getElem_enterFault_self once, enterFault_tareQueue]
      exact ⟨rfl, rfl, rfl, rfl, rfl⟩
    case out => rw [takeMeterError_of_out_of_service state]
  case closes =>
    rw [← noFlowExpires_of_charging runs charging]
    rfl
  case still => exact congrArg (fun t => Host.Outcome.next (finish t)) (noFlowExpires_of_still still)

end Sys2Proof.Machine
end

section
/-! SUPPORT. The link checks on a request that a free port takes (R176), and the flag bytes of replies (R185). -/

namespace Sys2Proof.Machine

variable {port : Port} {f : Frame} {s : State}

/-! ### The link checks in their order -/

theorem answerRequest_of_unknown (unknown : bodyLength f.kind = none) :
    answerRequest port f s = refuse .unknownKind 0 s := by
  unfold answerRequest
  rw [unknown]

theorem answerRequest_of_bad_length {n : Nat} (known : bodyLength f.kind = some n) (other : f.body.length ≠ n) :
    answerRequest port f s = refuse .badLength 0 s := by
  unfold answerRequest
  rw [known]
  exact if_pos other

theorem answerRequest_of_barred (known : bodyLength f.kind = some f.body.length) (service : port = .service)
    (only : lineOnly f.kind = true) : answerRequest port f s = refuse .notOnThisPort 0 s := by
  unfold answerRequest
  rw [known]
  exact (if_neg (not_not.mpr rfl)).trans (if_pos ⟨service, only⟩)

theorem answerRequest_of_carried (known : bodyLength f.kind = some f.body.length)
    (carried : port = .line ∨ lineOnly f.kind = false) : answerRequest port f s = handToOwner port f s := by
  have not_barred : ¬ (port = .service ∧ lineOnly f.kind = true) := by
    rintro ⟨service, only⟩
    rcases carried with line | both
    · exact nomatch line.symm.trans service
    · exact nomatch both.symm.trans only
  unfold answerRequest
  rw [known]
  exact (if_neg (not_not.mpr rfl)).trans (if_neg not_barred)

/-- The longest body that a request kind has is that of a write of a recipe. -/
theorem bodyLength_le {kind : Byte} {n : Nat} (known : bodyLength kind = some n) : n ≤ 66 := by
  unfold bodyLength at known
  split at known <;> cases known <;> decide

/-- A request that both link checks let pass is answered by its owner. -/
theorem receiveFrame_of_carried (known : bodyLength f.kind = some f.body.length)
    (carried : port = .line ∨ lineOnly f.kind = false) (free : freePort port s = true) :
    let handled := handToOwner port f (atOwner port f s)
    completes (receiveFrame port f s) = answered port f handled.2 handled.1 := by
  have short : f.body.length ≤ 240 := (bodyLength_le known).trans (by decide)
  rw [receiveFrame_of_free port f s short free, answerRequest_of_carried known carried]

/-- A request that the service port does not carry is refused there. -/
theorem receiveFrame_of_barred (known : bodyLength f.kind = some f.body.length) (only : lineOnly f.kind = true)
    (free : freePort .service s = true) :
    completes (receiveFrame .service f s) = answered .service f (.refused .notOnThisPort 0) (atOwner .service f s) := by
  have short : f.body.length ≤ 240 := (bodyLength_le known).trans (by decide)
  rw [receiveFrame_of_free .service f s short free, answerRequest_of_barred known rfl only]
  rfl

/-! ### Numbers read from one byte -/

theorem headOf_n8 (p : PocketNo) : headOf (n8 p) = some p := by
  have value : (n8 p).toNat = p.val := Nat.mod_eq_of_lt (p.isLt.trans (by decide))
  unfold headOf
  simp only [value, p.isLt, dite_true]

theorem channelOf_n8 (c : ChannelNo) : channelOf (n8 c) = some c := by
  have value : (n8 c).toNat = c.val := Nat.mod_eq_of_lt (c.isLt.trans (by decide))
  unfold channelOf
  simp only [value, c.isLt, dite_true]

theorem slotOf_n8 (i : SlotNo) : slotOf (n8 i) = some i := by
  have value : (n8 i).toNat = i.val := Nat.mod_eq_of_lt (i.isLt.trans (by decide))
  unfold slotOf
  simp only [value, i.isLt, dite_true]

theorem headOf_of_ge {b : Byte} (beyond : 24 ≤ b.toNat) : headOf b = none := dif_neg (Nat.not_lt.mpr beyond)

theorem channelOf_of_ge {b : Byte} (beyond : 4 ≤ b.toNat) : channelOf b = none := dif_neg (Nat.not_lt.mpr beyond)

theorem slotOf_of_ge {b : Byte} (beyond : 8 ≤ b.toNat) : slotOf b = none := dif_neg (Nat.not_lt.mpr beyond)

theorem slotOf_of_lt {b : Byte} (within : b.toNat < 8) : slotOf b = some ⟨b.toNat, within⟩ := dif_pos within

theorem choiceOf_of_neither {α : Type} {first second : α} {b : Byte} (not_first : b ≠ 1) (not_second : b ≠ 2) :
    choiceOf first second b = none := (if_neg not_first).trans (if_neg not_second)

/-! ### Flag bytes -/

theorem testBit_foldr_bits (l : List Bool) (i : Nat) :
    (l.foldr (fun (b : Bool) n => 2 * n + b.toNat) 0).testBit i = l.getD i false := by
  induction l generalizing i with
  | nil => simp
  | cons b l ih =>
    rw [List.foldr_cons]
    generalize l.foldr (fun (b : Bool) n => 2 * n + b.toNat) 0 = n at ih ⊢
    cases i with
    | zero => cases b <;> simp [Nat.testBit_zero]
    | succ i =>
      have half : (2 * n + b.toNat) / 2 = n := by have := b.toNat_lt; omega
      rw [Nat.testBit_succ, half, ih i]
      rfl

/-- Bit i of a flag byte is the i-th flag. -/
theorem getLsbD_bits8 (l : List Bool) {i : Nat} (inByte : i < 8) : (bits8 l).getLsbD i = l.getD i false := by
  unfold bits8 n8
  rw [BitVec.getLsbD_ofNat, testBit_foldr_bits]
  simp [inByte]

end Sys2Proof.Machine
end

section
/-! PROOF. Table 9.3: the twelve kinds that the service port does not carry; R182, R183: the requests of the link
controller. -/

namespace Sys2Proof.Machine

theorem length_recipeBytes (r : RecipeWire) : (recipeBytes r).length = 65 := by
  simp only [recipeBytes, phaseList, List.length_append, List.length_map, List.length_finRange, List.length_cons,
    List.length_nil, List.length_flatMap, List.map_cons, List.map_nil, List.sum_cons, List.sum_nil, length_le16,
    length_le32, Nat.reduceAdd]

theorem length_configBytes (c : ConfigWire) : (configBytes c).length = 21 := rfl

/-- Settles O43: on a free service port each of the twelve has the body length of its kind, so that the port check refuses it. -/
theorem lineOnlyRequestsAreRefusedOnTheServicePort : Obligations.LineOnlyRequestsAreRefusedOnTheServicePort := by
  unfold Obligations.LineOnlyRequestsAreRefusedOnTheServicePort
  intro tag slot target boundary head count mask lot newLot expected n c r s free refused
  have barred (kind : Byte) (body : List Byte) (known : bodyLength kind = some body.length) (only : lineOnly kind = true) :
      completes (receiveFrame .service { kind := kind, tag := tag, body := body } s)
        = answered .service { kind := kind, tag := tag, body := body } (.refused .notOnThisPort 0)
            (atOwner .service { kind := kind, tag := tag, body := body } s) :=
    receiveFrame_of_barred (f := { kind := kind, tag := tag, body := body }) known only free
  have write : bodyLength 0x0B = some (slot :: recipeBytes r).length := by
    rw [List.length_cons, length_recipeBytes]
    rfl
  exact ⟨barred 0x03 _ rfl rfl, barred 0x05 _ rfl rfl, barred 0x06 _ rfl rfl, barred 0x07 _ rfl rfl,
    barred 0x08 _ rfl rfl, barred 0x0A _ rfl rfl, barred 0x0B _ write rfl, barred 0x0F _ rfl rfl, barred 0x10 _ rfl rfl,
    barred 0x17 _ rfl rfl, barred 0x1A _ rfl rfl, barred 0x1B _ rfl rfl⟩

/-- The report mask as SET_REPORT_MASK answers it: the three bits it takes, and bit 3 set. -/
theorem bits8_mask (mask : Byte) :
    bits8 [mask.getLsbD 0, mask.getLsbD 1, mask.getLsbD 2, true] = mask &&& 7 ||| 8 := by
  refine BitVec.eq_of_getLsbD_eq fun i inByte => ?_
  rw [getLsbD_bits8 _ inByte, BitVec.getLsbD_or, BitVec.getLsbD_and]
  interval_cases i <;> simp

/-- Settles O41: PING reads the owner's state, in which the request stands alone in the queue; SET_REPORT_MASK writes the three
masks alone. -/
theorem linkRequestsAreAnswered : Obligations.LinkRequestsAreAnswered := by
  unfold Obligations.LinkRequestsAreAnswered
  intro port tag mask s ping set u
  refine ⟨fun free => ?ping, fun free => ?service, fun free => ?line⟩
  case ping =>
    have answer := receiveFrame_of_carried (f := ping) rfl (.inr rfl) free
    have mask_byte : maskByte s.link
        = n8 (s.link.maskTrace.toNat + 2 * s.link.maskLot.toNat + 4 * s.link.maskFault.toNat + 8) := by
      refine congrArg n8 ?_
      simp only [List.foldr_cons, List.foldr_nil, Bool.toNat_true]
      omega
    rw [← mask_byte]
    cases port <;> exact answer
  case service => exact receiveFrame_of_barred (f := set) rfl rfl free
  case line =>
    have answer := receiveFrame_of_carried (f := set) rfl (.inl rfl) free
    rw [← bits8_mask]
    exact answer

end Sys2Proof.Machine
end

section
/-! PROOF. R103: CLEAR_TALLIES for one head and for all. R100 to R102: the requests that move a head. -/

namespace Sys2Proof.Machine

section Requests

variable {port : Port} {tag head direction : Byte} {p q : PocketNo} {s : State}

/-! ### CLEAR_TALLIES -/

theorem ownClearTallies_of_all (s : State) :
    ownClearTallies 0xFF s
      = accept (fun _ => [0xFF]) { s with heads := Vector.ofFn fun p => clearHeadTallies s.heads[p] } := if_pos rfl

theorem n8_head_ne_all (p : PocketNo) : n8 p ≠ 0xFF := by
  intro same
  have value : (n8 p).toNat = p.val := Nat.mod_eq_of_lt (p.isLt.trans (by decide))
  have all : (n8 p).toNat = 255 := congrArg BitVec.toNat same
  have within := p.isLt
  omega

theorem ownClearTallies_of_head (p : PocketNo) (s : State) :
    ownClearTallies (n8 p) s = accept (fun _ => [n8 p]) (setHead p (clearHeadTallies s.heads[p]) s) := by
  unfold ownClearTallies
  rw [if_neg (n8_head_ne_all p), headOf_n8]

theorem ownClearTallies_of_bad (beyond : 24 ≤ head.toNat) (not_all : head.toNat ≤ 0xFE) :
    ownClearTallies head s = refuse .badValue 1 s := by
  have ne_all : head ≠ 0xFF := by
    rintro rfl
    exact absurd not_all (by decide)
  unfold ownClearTallies
  rw [if_neg ne_all, headOf_of_ge beyond]

theorem exec_clearTallies (free : freePort .line s = true) :
    let f : Frame := { kind := 0x17, tag := tag, body := [head] }
    let handled := ownClearTallies head (atOwner .line f s)
    exec (.clearTallies .line tag head) s = answered .line f handled.2 handled.1 :=
  receiveFrame_of_carried (f := { kind := 0x17, tag := tag, body := [head] }) rfl (.inl rfl) free

/-! ### RESTORE_HEAD and SET_HEAD_OUT -/

theorem barredOnService_of_service (service : port = .service) (moving : s.line.state ≠ .stopped) :
    barredOnService port s = true := by
  simp [barredOnService, service, moving]

theorem barredOnService_of_allowed (allowed : port = .line ∨ s.line.state = .stopped) :
    barredOnService port s = false := by
  rcases allowed with line | stopped
  · simp [barredOnService, line]
  · simp [barredOnService, stopped]

theorem ownRestoreHead_of_barred (barred : barredOnService port s = true) :
    ownRestoreHead port (n8 p) s = refuse .wrongState 0 s := by
  unfold ownRestoreHead
  rw [headOf_n8]
  exact if_pos barred

theorem ownRestoreHead_of_retired (allowed : barredOnService port s = false) (retired : s.heads[p].state = .retired) :
    ownRestoreHead port (n8 p) s = accept (headMovedBody p) (restoreRetired p s) := by
  unfold ownRestoreHead
  rw [headOf_n8]
  exact (if_neg (Bool.eq_false_iff.mp allowed)).trans (if_pos retired)

theorem ownRestoreHead_of_not_retired (allowed : barredOnService port s = false)
    (other : s.heads[p].state ≠ .retired) : ownRestoreHead port (n8 p) s = refuse .wrongState 0 s := by
  unfold ownRestoreHead
  rw [headOf_n8]
  exact (if_neg (Bool.eq_false_iff.mp allowed)).trans (if_neg other)

theorem ownSetHeadOut_of_barred (barred : barredOnService port s = true) (valid : direction = 1 ∨ direction = 2) :
    ownSetHeadOut port (n8 p) direction s = refuse .wrongState 0 s := by
  unfold ownSetHeadOut
  rw [headOf_n8]
  rcases valid with rfl | rfl <;> exact if_pos barred

theorem ownSetHeadOut_out (allowed : barredOnService port s = false) :
    ownSetHeadOut port (n8 p) 1 s = accept (headMovedBody p) (headOut p s) := by
  unfold ownSetHeadOut
  rw [headOf_n8]
  exact if_neg (Bool.eq_false_iff.mp allowed)

theorem ownSetHeadOut_in (allowed : barredOnService port s = false) (out : s.heads[p].state = .out) :
    ownSetHeadOut port (n8 p) 2 s = accept (headMovedBody p) (headIn p s) := by
  unfold ownSetHeadOut
  rw [headOf_n8]
  exact (if_neg (Bool.eq_false_iff.mp allowed)).trans (if_pos out)

theorem ownSetHeadOut_in_of_not_out (allowed : barredOnService port s = false) (other : s.heads[p].state ≠ .out) :
    ownSetHeadOut port (n8 p) 2 s = refuse .wrongState 0 s := by
  unfold ownSetHeadOut
  rw [headOf_n8]
  exact (if_neg (Bool.eq_false_iff.mp allowed)).trans (if_neg other)

theorem exec_restoreHead (free : freePort port s = true) :
    let f : Frame := { kind := 0x15, tag := tag, body := [head] }
    let handled := ownRestoreHead port head (atOwner port f s)
    exec (.restoreHead port tag head) s = answered port f handled.2 handled.1 :=
  receiveFrame_of_carried (f := { kind := 0x15, tag := tag, body := [head] }) rfl (.inr rfl) free

theorem exec_setHeadOut (free : freePort port s = true) :
    let f : Frame := { kind := 0x14, tag := tag, body := [head, direction] }
    let handled := ownSetHeadOut port head direction (atOwner port f s)
    exec (.setHeadOut port tag head direction) s = answered port f handled.2 handled.1 :=
  receiveFrame_of_carried (f := { kind := 0x14, tag := tag, body := [head, direction] }) rfl (.inr rfl) free

/-- The reply to a request that moved a head shows the head and the table as they stand after the move. -/
theorem headMovedBody_moveHead (event : HeadEvent) (f : Head → Head) :
    headMovedBody p (moveHead p event f s) = [n8 p, n8 (codeHeadState (f s.heads[p]).state), n8 s.retirements.length] := by
  unfold headMovedBody
  rw [getElem_moveHead_self, moveHead_retirements]

end Requests

/-- Settles O51: FFh takes every head at once; another number takes the head it names. -/
theorem clearTalliesSetsTalliesAlone : Obligations.ClearTalliesSetsTalliesAlone := by
  unfold Obligations.ClearTalliesSetsTalliesAlone
  intro tag s free f u zero
  have owner_heads (head : Byte) : (u head).heads = s.heads := atOwner_heads .line (f head) s
  refine ⟨fun p => ?one, ⟨Vector.ofFn fun p => clearHeadTallies s.heads[p], ?all, fun q => ?cleared⟩, ?bad⟩
  case one =>
    rw [exec_clearTallies free, ownClearTallies_of_head, ← owner_heads (n8 p)]
    rfl
  case all =>
    rw [exec_clearTallies free, ownClearTallies_of_all, ← owner_heads 0xFF]
    rfl
  case cleared =>
    rw [Fin.getElem_fin, Vector.getElem_ofFn]
    rfl
  case bad =>
    intro head beyond not_all
    rw [exec_clearTallies free, ownClearTallies_of_bad beyond not_all]
    rfl

/-- Settles O50: each request moves its head by one `moveHead`, a restore and a move OUT behind the removal of the head's entry. -/
theorem headRequestsMoveOneHead : Obligations.HeadRequestsMoveOneHead := by
  unfold Obligations.HeadRequestsMoveOneHead
  intro port tag p s free h restore set others without
  have restored := exec_restoreHead (tag := tag) (head := n8 p) free
  have moved (d : Byte) := exec_setHeadOut (tag := tag) (head := n8 p) (direction := d) free
  have owner_heads (f : Frame) : (atOwner port f s).heads = s.heads := atOwner_heads port f s
  have owner_state (f : Frame) : (atOwner port f s).line.state = s.line.state := atOwner_lineState port f s
  refine ⟨fun service moving => ?barred, fun allowed => ?allowed⟩
  case barred =>
    have barred (f : Frame) : barredOnService port (atOwner port f s) = true :=
      barredOnService_of_service service ((owner_state f).symm ▸ moving)
    refine ⟨?_, fun d valid => ?_⟩
    · rw [restored, ownRestoreHead_of_barred (barred _)]
      rfl
    · rw [moved d, ownSetHeadOut_of_barred (barred _) valid]
      rfl
  case allowed =>
    have open_to (f : Frame) : barredOnService port (atOwner port f s) = false :=
      barredOnService_of_allowed (allowed.imp_right (owner_state f).trans)
    have head_state (f : Frame) (st : HeadState) : (atOwner port f s).heads[p].state = st ↔ h.state = st := by
      rw [owner_heads]
    have elsewhere (f : Frame) (event : HeadEvent) (g : Head → Head) (t : State) (same : t.heads = (atOwner port f s).heads) :
        others (moveHead p event g t) := fun q ne => by
      rw [getElem_moveHead_ne (Ne.symm ne), same, owner_heads]
    have here (f : Frame) (event : HeadEvent) (g : Head → Head) (t : State) (same : t.heads = (atOwner port f s).heads) :
        (moveHead p event g t).heads[p] = g h := by
      rw [getElem_moveHead_self, same, owner_heads]
    refine ⟨fun retired => ?retired, fun other => ?notRetired, ?out, fun out => ?back, fun other => ?notOut⟩
    case retired =>
      have table : (dropEntry p (atOwner port restore s)).retirements = without :=
        congrArg _ (atOwner_retirements port restore s)
      refine ⟨restoreRetired p (atOwner port restore s), ?_, here restore _ _ _ rfl, ?_, elsewhere restore _ _ _ rfl⟩
      · rw [restored, ownRestoreHead_of_retired (open_to _) ((head_state _ _).mpr retired)]
        dsimp only [accept]
        rw [restoreRetired, headMovedBody_moveHead, table]
        rfl
      · rw [restoreRetired, moveHead_retirements, table]
    case notRetired =>
      rw [restored, ownRestoreHead_of_not_retired (open_to _) (mt (head_state _ _).mp other)]
      rfl
    case out =>
      have table : (dropEntry p (atOwner port (set 1) s)).retirements = without :=
        congrArg _ (atOwner_retirements port (set 1) s)
      refine ⟨headOut p (atOwner port (set 1) s), ?_, here (set 1) _ _ _ rfl, ?_, elsewhere (set 1) _ _ _ rfl⟩
      · rw [moved 1, ownSetHeadOut_out (open_to _)]
        dsimp only [accept]
        rw [headOut, headMovedBody_moveHead, table]
        rfl
      · rw [headOut, moveHead_retirements, table]
    case back =>
      refine ⟨headIn p (atOwner port (set 2) s), ?_, here (set 2) _ _ _ rfl, ?_, elsewhere (set 2) _ _ _ rfl⟩
      · rw [moved 2, ownSetHeadOut_in (open_to _) ((head_state _ _).mpr out)]
        dsimp only [accept]
        rw [headIn, headMovedBody_moveHead, atOwner_retirements]
        rfl
      · rw [headIn, moveHead_retirements, atOwner_retirements]
    case notOut =>
      rw [moved 2, ownSetHeadOut_in_of_not_out (open_to _) (mt (head_state _ _).mp other)]
      rfl

end Sys2Proof.Machine
end

section
/-! PROOF. R67, R85, R104, R105, R135, R144, R151, R161, R168: the requests that read state, and the lengths of their replies. -/

namespace Sys2Proof.Machine

section Reading

variable {port : Port} {s : State}

/-! ### What the replies read is not touched by the arrival of the request -/

theorem haltBody_atOwner (port : Port) (f : Frame) (s : State) : haltBody (atOwner port f s) = haltBody s := by
  cases port <;> rfl

theorem getChangeoverBody_atOwner (port : Port) (f : Frame) (s : State) :
    getChangeoverBody (atOwner port f s) = getChangeoverBody s := by
  cases port <;> rfl

theorem lotBody_atOwner (port : Port) (f : Frame) (s : State) : lotBody (atOwner port f s) = lotBody s := by
  cases port <;> rfl

theorem retirementsBody_atOwner (port : Port) (f : Frame) (s : State) :
    retirementsBody (atOwner port f s) = retirementsBody s := by
  cases port <;> rfl

theorem headBody_atOwner (p : PocketNo) (port : Port) (f : Frame) (s : State) :
    headBody p (atOwner port f s) = headBody p s := by
  cases port <;> rfl

theorem channelBody_atOwner (c : ChannelNo) (port : Port) (f : Frame) (s : State) :
    channelBody c (atOwner port f s) = channelBody c s := by
  cases port <;> rfl

theorem readRecipeBody_atOwner (i : SlotNo) (port : Port) (f : Frame) (s : State) :
    readRecipeBody port i (atOwner port f s) = readRecipeBody port i s := by
  cases port <;> rfl

/-! ### The owners -/

theorem ownGetHead_n8 (p : PocketNo) (s : State) : ownGetHead (n8 p) s = accept (headBody p) s := by
  unfold ownGetHead
  rw [headOf_n8]

theorem ownGetHead_of_ge {b : Byte} (beyond : 24 ≤ b.toNat) : ownGetHead b s = refuse .badValue 1 s := by
  unfold ownGetHead
  rw [headOf_of_ge beyond]

theorem ownGetChannel_n8 (c : ChannelNo) (s : State) : ownGetChannel (n8 c) s = accept (channelBody c) s := by
  unfold ownGetChannel
  rw [channelOf_n8]

theorem ownGetChannel_of_ge {b : Byte} (beyond : 4 ≤ b.toNat) : ownGetChannel b s = refuse .badValue 1 s := by
  unfold ownGetChannel
  rw [channelOf_of_ge beyond]

theorem ownReadRecipe_n8 (port : Port) (i : SlotNo) (s : State) :
    ownReadRecipe port (n8 i) s = accept (readRecipeBody port i) s := by
  unfold ownReadRecipe
  rw [slotOf_n8]

theorem ownReadRecipe_of_ge {b : Byte} (beyond : 8 ≤ b.toNat) : ownReadRecipe port b s = refuse .badValue 1 s := by
  unfold ownReadRecipe
  rw [slotOf_of_ge beyond]

theorem exec_getHead {tag b : Byte} {ins : List SampledInput} (free : freePort port (sampleInputs ins s) = true) :
    let f : Frame := { kind := 0x13, tag := tag, body := [b] }
    let handled := ownGetHead b (atOwner port f (sampleInputs ins s))
    exec (.getHead port tag ⟨b, ins⟩) s = answered port f handled.2 handled.1 :=
  receiveFrame_of_carried (f := { kind := 0x13, tag := tag, body := [b] }) rfl (.inr rfl) free

theorem exec_getChannel {tag b : Byte} (free : freePort port s = true) :
    let f : Frame := { kind := 0x18, tag := tag, body := [b] }
    let handled := ownGetChannel b (atOwner port f s)
    exec (.getChannel port tag b) s = answered port f handled.2 handled.1 :=
  receiveFrame_of_carried (f := { kind := 0x18, tag := tag, body := [b] }) rfl (.inr rfl) free

theorem exec_readRecipe {tag b : Byte} (free : freePort port s = true) :
    let f : Frame := { kind := 0x0E, tag := tag, body := [b] }
    let handled := ownReadRecipe port b (atOwner port f s)
    exec (.readRecipe port tag b) s = answered port f handled.2 handled.1 :=
  receiveFrame_of_carried (f := { kind := 0x0E, tag := tag, body := [b] }) rfl (.inr rfl) free

/-! ### Lengths of replies (Chapter 10) -/

theorem length_canBytes (o : Option CanId) : (canBytes o).length = 8 := by cases o <;> rfl

theorem length_lotBytes (o : Option LotRecord) : (lotBytes o).length = 34 := by cases o <;> rfl

theorem length_lotBody (s : State) : (lotBody s).length = 103 := by
  simp only [lotBody, List.length_append, length_lotBytes, List.length_cons, List.length_nil, Nat.reduceAdd]

theorem length_haltBody (s : State) : (haltBody s).length = 15 := by
  unfold haltBody
  split <;> rfl

theorem length_reservationBytes (o : Option Reservation) : (reservationBytes o).length = 3 := rfl

theorem length_slotStates (s : State) :
    ((List.finRange 8).flatMap fun i => n8 (codeSlotState s.recipes.slots[i]) :: le16 s.recipes.slots[i].generation).length
      = 24 := by
  simp only [List.length_flatMap, List.length_cons, length_le16, List.map_const', List.length_finRange,
    List.sum_replicate, Nat.reduceAdd, smul_eq_mul, Nat.reduceMul]

theorem length_statusBody (s : State) : (statusBody s).length = 115 := by
  unfold statusBody
  simp only [List.length_append]
  simp only [n16, n32, length_configBytes, length_slotStates, length_reservationBytes, List.length_map,
    List.length_finRange, length_le16, length_le32, List.length_cons, List.length_nil]

theorem length_getChangeoverBody (s : State) : (getChangeoverBody s).length = 27 := by
  simp only [getChangeoverBody, outcomeBytes, n16, List.length_append, length_le16, length_le32, List.length_cons,
    List.length_nil, Nat.reduceAdd]

theorem length_headPart (p : PocketNo) (s : State) : (headPart p s).length = 29 := by
  simp only [headPart, i16, n16, List.length_append, length_canBytes, length_le16, List.length_cons, List.length_nil,
    Nat.reduceAdd]

theorem length_pocketPart (p : PocketNo) (s : State) : (pocketPart p s).length = 20 := rfl

theorem length_crimpPart (p : PocketNo) (s : State) : (crimpPart p s).length = 12 := by
  simp only [crimpPart, List.length_append, length_canBytes, List.length_cons, List.length_nil, Nat.reduceAdd]

theorem length_headBody (p : PocketNo) (s : State) : (headBody p s).length = 61 := by
  rw [headBody, List.length_append, List.length_append, length_headPart, length_pocketPart, length_crimpPart]

/-! ### The head inputs in GET_HEAD (R85) -/

/-- Byte 49 shows the commands and inputs of the head, as they stand. -/
theorem headBody_crimpByte (p : PocketNo) (s : State) :
    (headBody p s)[49]? = some (bits8 [s.crimp[p].bellLowered, s.crimp[p].jawClosed, s.inputs.cupPresent[p],
      s.inputs.bellClosed[p], s.inputs.bellOpen[p], s.inputs.jawClosed[p], s.crimp[p].watch.isSome]) := by
  have front : (headPart p s ++ pocketPart p s).length = 49 := by
    rw [List.length_append, length_headPart, length_pocketPart]
  rw [headBody, List.getElem?_append_right front.le, front]
  rfl

/-- A sampled cup input shows at once; the commands and the inputs with rows of their own stand as they were. -/
theorem sampleInputs_cup (ins : List SampledInput) (p : PocketNo) (present : Bool) (s : State) :
    let now := sampleInputs (ins ++ [.cupPresent p present]) s
    now.inputs.cupPresent[p] = present ∧ now.crimp = s.crimp := by
  dsimp only
  rw [sampleInputs_append]
  constructor
  · exact Vector.getElem_set_self p.isLt
  · change (sampleInputs ins s).crimp = s.crimp
    rw [sampleInputs_eq]

end Reading

/-- Settles O42: each of the readers answers with its body at the owner's state, which reads nothing that the arrival of the
request changes but the sampled inputs. -/
theorem readingRequestsShowAndChangeNothing : Obligations.ReadingRequestsShowAndChangeNothing := by
  unfold Obligations.ReadingRequestsShowAndChangeNothing
  refine ⟨fun port tag s free => ?requests, fun p s => ?lengths, fun p present ins s => ?levels⟩
  case requests =>
    intro f u
    have answer (kind : Byte) (body : List Byte) (known : bodyLength kind = some body.length)
        (carried : lineOnly kind = false) {t : State} (free : freePort port t = true) :=
      receiveFrame_of_carried (f := f kind body) known (.inr carried) free
    have sampled (ins : List SampledInput) : freePort port (sampleInputs ins s) = true := by
      rw [sampleInputs_eq]
      cases port <;> exact free
    refine ⟨answer 0x02 [] rfl rfl free, ?halt, ?changeover, ?lot, ?retirements, fun p ins => ?head, fun c => ?channel,
      fun i => ?recipe, fun b ins beyond => ?noHead, fun b beyond => ?noChannel, fun b beyond => ?noSlot⟩
    case halt => rw [← haltBody_atOwner port (f 0x09 [])]; exact answer 0x09 [] rfl rfl free
    case changeover => rw [← getChangeoverBody_atOwner port (f 0x11 [])]; exact answer 0x11 [] rfl rfl free
    case lot => rw [← lotBody_atOwner port (f 0x12 [])]; exact answer 0x12 [] rfl rfl free
    case retirements => rw [← retirementsBody_atOwner port (f 0x16 [])]; exact answer 0x16 [] rfl rfl free
    case head =>
      intro now
      rw [exec_getHead (sampled ins), ownGetHead_n8, ← headBody_atOwner p port (f 0x13 [n8 p])]
      rfl
    case channel =>
      rw [exec_getChannel free, ownGetChannel_n8, ← channelBody_atOwner c port (f 0x18 [n8 c])]
      rfl
    case recipe =>
      rw [exec_readRecipe free, ownReadRecipe_n8, ← readRecipeBody_atOwner i port (f 0x0E [n8 i])]
      rfl
    case noHead =>
      rw [exec_getHead (sampled ins), ownGetHead_of_ge beyond]
      rfl
    case noChannel =>
      rw [exec_getChannel free, ownGetChannel_of_ge beyond]
      rfl
    case noSlot =>
      rw [exec_readRecipe free, ownReadRecipe_of_ge beyond]
      rfl
  case lengths => exact ⟨length_statusBody s, length_headBody p s, length_lotBody s, length_getChangeoverBody s, length_haltBody s⟩
  case levels =>
    intro now
    obtain ⟨bell_closed, bell_open, jaw_closed⟩ := sampleInputs_levels (ins ++ [.cupPresent p present]) s
    obtain ⟨cup, crimp⟩ := sampleInputs_cup ins p present s
    rw [headBody_crimpByte, Option.map_some, getLsbD_bits8 _ (by decide), getLsbD_bits8 _ (by decide),
      getLsbD_bits8 _ (by decide), getLsbD_bits8 _ (by decide), getLsbD_bits8 _ (by decide), getLsbD_bits8 _ (by decide),
      bell_closed, bell_open, jaw_closed, cup, crimp]
    rfl

end Sys2Proof.Machine
end

section
/-! PROOF. R171, R173, R185: records, configurations and frames are read back from the bytes that carry them. -/

namespace Sys2Proof.Machine

section ReadBack

/-! ### Reading past a field -/

theorem byteAt_past (l m : List Byte) {n : Nat} (size : l.length = n) (i : Nat) : byteAt (l ++ m) (i + n) = byteAt m i := by
  rw [Nat.add_comm, ← size, byteAt_append_right]

theorem wordAt_past (l m : List Byte) {n : Nat} (size : l.length = n) (i : Nat) : wordAt (l ++ m) (i + n) = wordAt m i := by
  unfold wordAt
  rw [byteAt_past l m size, Nat.add_right_comm, byteAt_past l m size]

theorem dwordAt_past (l m : List Byte) {n : Nat} (size : l.length = n) (i : Nat) :
    dwordAt (l ++ m) (i + n) = dwordAt m i := by
  unfold dwordAt
  rw [wordAt_past l m size, Nat.add_right_comm, wordAt_past l m size]

variable (w : Word16) (v : Word32) (l : List Byte) (i : Nat)

theorem byteAt_past_le16 : byteAt (le16 w ++ l) (i + 2) = byteAt l i := byteAt_past _ l (length_le16 w) i
theorem wordAt_past_le16 : wordAt (le16 w ++ l) (i + 2) = wordAt l i := wordAt_past _ l (length_le16 w) i
theorem dwordAt_past_le16 : dwordAt (le16 w ++ l) (i + 2) = dwordAt l i := dwordAt_past _ l (length_le16 w) i
theorem byteAt_past_le32 : byteAt (le32 v ++ l) (i + 4) = byteAt l i := byteAt_past _ l (length_le32 v) i
theorem wordAt_past_le32 : wordAt (le32 v ++ l) (i + 4) = wordAt l i := wordAt_past _ l (length_le32 v) i
theorem dwordAt_past_le32 : dwordAt (le32 v ++ l) (i + 4) = dwordAt l i := dwordAt_past _ l (length_le32 v) i

theorem wordAt_le16_end : wordAt (le16 w) 0 = w := word_of_bytes w

theorem dwordAt_le32_end : dwordAt (le32 v) 0 = v := dword_of_bytes v

/-! ### The name of a recipe record -/

/-- The sixteen characters of the name field. -/
def nameField (r : RecipeWire) : List Byte := (List.finRange 16).map fun i => r.nameChars[i]

theorem length_nameField (r : RecipeWire) : (nameField r).length = 16 := by
  rw [nameField, List.length_map, List.length_finRange]

theorem byteAt_nameField (r : RecipeWire) {i : Nat} (inside : i < 16) : byteAt (nameField r ++ l) i = r.nameChars[i] := by
  rw [byteAt_append_left _ _ _ ((length_nameField r).symm ▸ inside)]
  simp [byteAt, nameField, List.getD_eq_getElem?_getD, inside]

theorem byteAt_past_name (r : RecipeWire) : byteAt (nameField r ++ l) (i + 16) = byteAt l i :=
  byteAt_past _ l (length_nameField r) i
theorem wordAt_past_name (r : RecipeWire) : wordAt (nameField r ++ l) (i + 16) = wordAt l i :=
  wordAt_past _ l (length_nameField r) i
theorem dwordAt_past_name (r : RecipeWire) : dwordAt (nameField r ++ l) (i + 16) = dwordAt l i :=
  dwordAt_past _ l (length_nameField r) i

/-- A recipe record from left to right. -/
theorem recipeBytes_eq (r : RecipeWire) :
    recipeBytes r = r.nameLength :: (nameField r ++ (le32 r.productCode ++ (le16 r.doseTarget ++ (le16 r.doseTolerance
      ++ (le16 r.supplyMinimum ++ (le16 r.phases.admitCheck ++ (le16 r.phases.cupCheck ++ (le16 r.phases.seat
      ++ (le16 r.phases.chargeOpen ++ (le16 r.phases.chargeLatest ++ (le16 r.phases.chargeClose
      ++ (le16 r.phases.crimpStart ++ (le16 r.phases.crimpMeasure ++ (le16 r.phases.release ++ (r.jawMode
      :: (le16 r.jawTime ++ (le16 r.heightLow ++ (le16 r.heightHigh ++ (le16 r.forceLow ++ (le16 r.forceHigh
      ++ (le32 r.minimumPitch ++ (r.bandPresence :: (le16 r.weightLow ++ le16 r.weightHigh))))))))))))))))))))))) := by
  simp only [recipeBytes, nameField, phaseList, List.flatMap_cons, List.flatMap_nil, List.append_assoc, List.cons_append,
    List.nil_append, List.append_nil]

theorem nameChars_read (r : RecipeWire) (slot : Byte) (l : List Byte) :
    (Vector.ofFn fun i : Fin 16 => byteAt (slot :: r.nameLength :: (nameField r ++ l)) (2 + i.val)) = r.nameChars := by
  refine Vector.ext fun i inside => ?_
  rw [Vector.getElem_ofFn, Nat.add_comm 2 i, byteAt_cons_succ, byteAt_cons_succ, byteAt_nameField _ _ inside]

theorem recipeAt_recipeBytes (slot : Byte) (r : RecipeWire) : recipeAt (slot :: recipeBytes r) 1 = r := by
  rw [recipeBytes_eq]
  unfold recipeAt
  simp only [Nat.reduceAdd, nameChars_read, byteAt_cons_succ, byteAt_cons_zero, wordAt_cons, dwordAt_cons,
    byteAt_past_name, wordAt_past_name, dwordAt_past_name, byteAt_past_le16, wordAt_past_le16, dwordAt_past_le16,
    byteAt_past_le32, wordAt_past_le32, dwordAt_past_le32, wordAt_le16, dwordAt_le32, wordAt_le16_end]

/-- A configuration from left to right. -/
theorem configBytes_eq (c : ConfigWire) :
    configBytes c = c.gateDistance :: c.weigherDistance :: c.retirementLimit :: c.reseatThreshold :: c.probationCount
      :: (le16 c.calibrationLimit ++ (c.gateSettleTime :: (le16 c.stallTime ++ (c.syncTimeout
      :: (le16 c.tareIntervalCount ++ (le16 c.tareIntervalTime ++ (le16 c.quietTime ++ le32 c.safeCeiling))))))) := rfl

theorem configAt_configBytes (c : ConfigWire) : configAt (configBytes c) = c := by
  rw [configBytes_eq]
  unfold configAt
  simp only [byteAt_cons_succ, byteAt_cons_zero, wordAt_cons, dwordAt_cons, byteAt_past_le16, wordAt_past_le16,
    dwordAt_past_le16, wordAt_le16, dwordAt_le32_end]

/-! ### Frames -/

theorem toNat_frameLen {f : Frame} (short : f.body.length ≤ 240) : (n8 (f.body.length + 2)).toNat = f.body.length + 2 :=
  Nat.mod_eq_of_lt (by omega)

theorem length_frameBytes (f : Frame) : (frameBytes f).length = f.body.length + 6 := by
  simp only [frameBytes, checkedBytes, List.length_cons, List.length_append, length_le16]

theorem parseFrame_frameBytes {f : Frame} (short : f.body.length ≤ 240) : parseFrame (frameBytes f) = some f := by
  have len : (byteAt (frameBytes f) 1).toNat - 2 = f.body.length := by
    rw [show byteAt (frameBytes f) 1 = n8 (f.body.length + 2) from rfl, toNat_frameLen short, Nat.add_sub_cancel]
  have body : ((frameBytes f).drop 4).take ((byteAt (frameBytes f) 1).toNat - 2) = f.body := by
    rw [len, show (frameBytes f).drop 4 = f.body ++ le16 (crc (checkedBytes f)) from rfl, List.take_left]
  unfold parseFrame
  dsimp only
  rw [body]
  exact if_pos rfl

/-- A frame parsed from bytes is written as those bytes. -/
theorem frameBytes_of_parseFrame {bytes : List Byte} {f : Frame} (parsed : parseFrame bytes = some f) :
    frameBytes f = bytes := by
  unfold parseFrame at parsed
  dsimp only at parsed
  split at parsed
  case isTrue same => exact Option.some.inj parsed ▸ same
  case isFalse => cases parsed

end ReadBack

/-- Settles O54: each field is read behind the fields that stand before it; a frame's LEN says where its body ends. -/
theorem recordsAndFramesReadBackFromTheirBytes : Obligations.RecordsAndFramesReadBackFromTheirBytes :=
  ⟨fun slot r => ⟨recipeAt_recipeBytes slot r, length_recipeBytes r⟩,
    fun c => ⟨configAt_configBytes c, length_configBytes c⟩, fun _ short => parseFrame_frameBytes short⟩

end Sys2Proof.Machine
end

section
/-! PROOF. R9, R132, R135, R187: what a recipe record that passed every check holds, and what READ_RECIPE returns of it. -/

namespace Sys2Proof.Machine

theorem ofNat_toNat_same {n : Nat} (w : BitVec n) : BitVec.ofNat n w.toNat = w :=
  (BitVec.ofNat_toNat n w).trans (BitVec.setWidth_eq w)

/-! ### The checks, taken one by one -/

/-- No field is named exactly when every check holds. -/
theorem firstBad_eq_none {l : List (Nat × Bool)} : firstBad l = none ↔ ∀ check ∈ l, check.2 = true := by
  induction l with
  | nil => simp [firstBad]
  | cons check l ih =>
    obtain ⟨id, ok⟩ := check
    cases ok <;> simp [firstBad, ih]

/-- The checks of the phases, written out (Table 1.4). -/
def PhasesApart (p : PhasesOf Nat) : Prop :=
  30 ≤ p.admitCheck ∧ p.admitCheck + 30 ≤ p.cupCheck ∧ p.cupCheck + 30 ≤ p.seat ∧ p.seat + 30 ≤ p.chargeOpen
    ∧ p.chargeOpen + 30 ≤ p.chargeLatest ∧ p.chargeLatest + 30 ≤ p.chargeClose ∧ p.chargeClose + 120 ≤ p.crimpStart
    ∧ p.crimpStart + 30 ≤ p.crimpMeasure ∧ p.crimpMeasure + 30 ≤ p.release ∧ p.release ≤ 2400

theorem phaseChecks_hold (p : PhasesOf Nat) : (∀ check ∈ phaseChecks p, check.2 = true) ↔ PhasesApart p := by
  simp [phaseChecks, PhasesApart]

section Valid

variable {r : RecipeWire} (valid : recipeBadField r = none)
include valid

theorem check_holds {id : Nat} {ok : Bool} (mem : (id, ok) ∈ recipeChecks r) : ok = true :=
  firstBad_eq_none.mp valid (id, ok) mem

theorem phases_apart : PhasesApart (recipeOf r).phases := by
  refine (phaseChecks_hold _).mp fun check mem => firstBad_eq_none.mp valid check ?_
  unfold recipeChecks
  exact List.mem_append_left _ (List.mem_append_left _ (List.mem_append_right _ mem))

theorem nameLength_le : r.nameLength.toNat ≤ 16 := by
  have ok : nameOk r = true := check_holds valid (id := 2) (by simp [recipeChecks])
  simp only [nameOk, Bool.and_eq_true, decide_eq_true_eq] at ok
  exact ok.1

theorem jawMode_valid : r.jawMode = 1 ∨ r.jawMode = 2 := by
  have ok : (jawModeOf r.jawMode).isSome = true := check_holds valid (id := 16) (by simp [recipeChecks])
  unfold jawModeOf choiceOf at ok
  split at ok
  case isTrue one => exact .inl one
  case isFalse =>
    split at ok
    case isTrue two => exact .inr two
    case isFalse => cases ok

theorem bandPresence_valid : r.bandPresence = 0 ∨ r.bandPresence = 1 := by
  have ok : decide (r.bandPresence.toNat ≤ 1) = true := check_holds valid (id := 23) (by simp [recipeChecks])
  have le : r.bandPresence.toNat ≤ 1 := of_decide_eq_true ok
  rcases Nat.le_one_iff_eq_zero_or_eq_one.mp le with zero | one
  · exact .inl (BitVec.eq_of_toNat_eq zero)
  · exact .inr (BitVec.eq_of_toNat_eq one)

/-! ### Field by field -/

theorem length_recipeName : (recipeName r).length = r.nameLength.toNat := by
  rw [recipeName, List.length_take, List.length_map, List.length_finRange]
  exact Nat.min_eq_left (nameLength_le valid)

theorem nameLength_back : (recipeWireOf (recipeOf r)).nameLength = r.nameLength := by
  change n8 (recipeName r).length = r.nameLength
  rw [length_recipeName valid]
  exact ofNat_toNat_same _

theorem recipeName_back : recipeName (recipeWireOf (recipeOf r)) = recipeName r := by
  unfold recipeName
  rw [nameLength_back valid]
  refine List.ext_getElem (by simp) fun i inside _ => ?_
  have named : i < r.nameLength.toNat := (List.length_take .. ▸ inside).trans_le (min_le_left _ _)
  have field : i < 16 := named.trans_le (nameLength_le valid)
  simp [recipeWireOf, recipeOf, recipeName, named, field]

theorem jawMode_back : (recipeWireOf (recipeOf r)).jawMode = r.jawMode := by
  change n8 (codeJawMode (if r.jawMode = 2 then .timed else .confirmed)) = r.jawMode
  rcases jawMode_valid valid with mode | mode <;> rw [mode] <;> rfl

end Valid

theorem phases_back (r : RecipeWire) : (recipeWireOf (recipeOf r)).phases = r.phases := by
  change mapPhases (BitVec.ofNat 16) (mapPhases BitVec.toNat r.phases) = r.phases
  simp [mapPhases]

theorem weightBand_of_absent {r : RecipeWire} (absent : r.bandPresence = 0) : (recipeOf r).weightBand = none := by
  change (if r.bandPresence = 1 then _ else none) = none
  rw [absent]
  rfl

theorem weightBand_of_present {r : RecipeWire} (present : r.bandPresence = 1) :
    (recipeOf r).weightBand = some (r.weightLow.toNat, r.weightHigh.toNat) := if_pos present

theorem band_back_of_absent {r : RecipeWire} (absent : r.bandPresence = 0) :
    let w := recipeWireOf (recipeOf r)
    w.bandPresence = 0 ∧ w.weightLow = 0 ∧ w.weightHigh = 0 := by
  unfold recipeWireOf
  rw [weightBand_of_absent absent]
  exact ⟨rfl, rfl, rfl⟩

theorem band_back_of_present {r : RecipeWire} (present : r.bandPresence = 1) :
    let w := recipeWireOf (recipeOf r)
    w.bandPresence = 1 ∧ w.weightLow = r.weightLow ∧ w.weightHigh = r.weightHigh := by
  unfold recipeWireOf
  rw [weightBand_of_present present]
  exact ⟨rfl, ofNat_toNat_same _, ofNat_toNat_same _⟩

/-- Settles O55: the checks of Table 1.4 add up along the phases; a number written as its value is read back as itself, and
the rest of the record is one of two codes, the band of which says whether the bounds are kept. -/
theorem validatedRecipesKeepTheirDistancesAndReadBack : Obligations.ValidatedRecipesKeepTheirDistancesAndReadBack := by
  unfold Obligations.ValidatedRecipesKeepTheirDistancesAndReadBack
  refine ⟨fun r valid => ?phases, fun r valid => ?back⟩
  case phases =>
    intro p
    have apart : PhasesApart p := phases_apart valid
    obtain ⟨early, cup, seat, opening, latest, closing, start, measure, release, top⟩ := apart
    refine ⟨early, cup, seat, opening, latest, closing, start, measure, release, by omega, fun x mem => ?_⟩
    simp only [phaseList, List.mem_cons, List.not_mem_nil, or_false] at mem
    rcases mem with rfl | rfl | rfl | rfl | rfl | rfl | rfl | rfl | rfl <;> omega
  case back =>
    intro w
    have presence : w.bandPresence = r.bandPresence := by
      rcases bandPresence_valid valid with absent | present
      · exact (band_back_of_absent absent).1.trans absent.symm
      · exact (band_back_of_present present).1.trans present.symm
    exact ⟨nameLength_back valid, recipeName_back valid, rfl, ofNat_toNat_same _, ofNat_toNat_same _,
      ofNat_toNat_same _, phases_back r, jawMode_back valid, ofNat_toNat_same _, ofNat_toNat_same _,
      ofNat_toNat_same _, ofNat_toNat_same _, ofNat_toNat_same _, ofNat_toNat_same _, presence,
      fun present => (band_back_of_present present).2, fun absent => (band_back_of_absent absent).2⟩

end Sys2Proof.Machine
end

section
/-! PROOF. R164, R171 to R177: receivers take bytes into frames, and frames are placed, refused or taken. -/

namespace Sys2Proof.Machine

section Receiving

variable {port : Port} {b : Byte} {bytes : List Byte} {f : Frame} {s : State}

/-! ### Ports -/

@[simp] theorem modifyPort_setPort (port : Port) (g : PortState → PortState) (v : PortState) (s : State) :
    modifyPort port g (setPort port v s) = setPort port (g v) s := by
  rw [modifyPort, portOf_setPort_same, setPort_setPort]

theorem setPort_portOf (port : Port) (s : State) : setPort port (portOf port s) s = s := by cases port <;> rfl

theorem deaf_setPort {v : PortState} (same : v.transmitter = (portOf port s).transmitter) :
    deaf port (setPort port v s) = deaf port s := by
  rw [deaf, deaf, portOf_setPort_same, same]

theorem deaf_sampleInputs (port : Port) (ins : List SampledInput) (s : State) :
    deaf port (sampleInputs ins s) = deaf port s := by
  rw [sampleInputs_eq]
  cases port <;> rfl

theorem freePort_sampleInputs (port : Port) (ins : List SampledInput) (s : State) :
    freePort port (sampleInputs ins s) = freePort port s := by
  rw [sampleInputs_eq]
  cases port <;> rfl

/-! ### Placing a whole frame (R174) -/

/-- The sign of life that a whole frame is on the line port (R164). -/
def livened (port : Port) (s : State) : State :=
  match port with
  | .line => restartSupervision s
  | .service => s

/-- The state in which a whole frame is placed: the receiver HUNTING and, on the line port, supervision begun again. -/
theorem frameArrives_hunt (port : Port) (f : Frame) (s : State) :
    frameArrives port f (hunt port s)
      = placeFrame port f (setPort port { portOf port s with receiver := .hunting, gapTimer := none } (livened port s)) := by
  cases port <;> rfl

theorem receiveFrame_of_hearing (hears : deaf port s = false) (short : f.body.length ≤ 240) :
    receiveFrame port f s
      = placeFrame port f (setPort port { portOf port s with receiver := .hunting, gapTimer := none } (livened port s)) := by
  rw [receiveFrame, if_neg (Bool.eq_false_iff.mp hears), if_pos short, frameArrives_hunt]

variable {v : PortState}

theorem placeFrame_of_room (room : v.queue.length < 4) (waits : v.queue ≠ [] ∨ v.refusal ≠ none) :
    placeFrame port f (setPort port v s) = setPort port { v with queue := v.queue ++ [f] } s := by
  have not_free : ¬ (v.queue = [] ∧ v.refusal = none) := fun free => waits.elim (· free.1) (· free.2)
  unfold placeFrame
  dsimp only
  rw [portOf_setPort_same, setPort_setPort]
  exact (if_pos room).trans (if_neg not_free)

theorem placeFrame_of_full (full : v.queue.length = 4) (slot : v.refusal = none) :
    placeFrame port f (setPort port v s) = setPort port { v with refusal := some { frame := busyFrame f, ahead := 4 } } s := by
  unfold placeFrame
  dsimp only
  rw [portOf_setPort_same, setPort_setPort, setPort_setPort, full]
  exact (if_neg (by decide)).trans (if_pos slot)

theorem placeFrame_of_lost (full : v.queue.length = 4) (slot : v.refusal ≠ none) :
    placeFrame port f (setPort port v s) = setPort port v s := by
  unfold placeFrame
  dsimp only
  rw [portOf_setPort_same, full]
  exact (if_neg (by decide)).trans (if_neg slot)

theorem bodyLength_of_no_kind {kind : Byte} (none_such : kind.toNat = 0 ∨ 27 < kind.toNat) : bodyLength kind = none := by
  unfold bodyLength
  split
  case h_28 => rfl
  all_goals omega

/-! ### Bytes (R171, R172) -/

theorem hunt_eq (port : Port) (s : State) :
    hunt port s = setPort port { portOf port s with receiver := .hunting, gapTimer := none } s := rfl

theorem receiveByte_of_start (hears : deaf port s = false) (hunting : (portOf port s).receiver = .hunting) :
    receiveByte port 0xC3 s
      = setPort port { portOf port s with receiver := .inFrame [0xC3], gapTimer := some (gapTime port) } s := by
  rw [receiveByte, if_neg (Bool.eq_false_iff.mp hears), hunting]
  rfl

theorem receiveByte_of_no_start (hears : deaf port s = false) (hunting : (portOf port s).receiver = .hunting)
    (other : b ≠ 0xC3) : receiveByte port b s = s := by
  rw [receiveByte, if_neg (Bool.eq_false_iff.mp hears), hunting]
  exact if_neg other

theorem receiveByte_in_frame (hears : deaf port s = false) (inside : (portOf port s).receiver = .inFrame bytes) :
    receiveByte port b s = extendFrame port bytes b s := by
  rw [receiveByte, if_neg (Bool.eq_false_iff.mp hears), inside]

theorem extendFrame_of_bad_len (bad : (byteAt (bytes ++ [b]) 1).toNat < 2 ∨ 242 < (byteAt (bytes ++ [b]) 1).toNat) :
    extendFrame port bytes b s = hunt port s := if_pos bad

section GoodLen

variable (low : 2 ≤ (byteAt (bytes ++ [b]) 1).toNat) (high : (byteAt (bytes ++ [b]) 1).toNat ≤ 242)
include low high

theorem not_bad_len : ¬ ((byteAt (bytes ++ [b]) 1).toNat < 2 ∨ 242 < (byteAt (bytes ++ [b]) 1).toNat) := by omega

theorem extendFrame_of_more (more : bytes.length + 1 ≠ (byteAt (bytes ++ [b]) 1).toNat + 4) :
    extendFrame port bytes b s = setPort port
      { portOf port s with receiver := .inFrame (bytes ++ [b]), gapTimer := some (gapTime port) } s := by
  have goes_on : (bytes ++ [b]).length ≠ (byteAt (bytes ++ [b]) 1).toNat + 4 := by
    rwa [List.length_append, List.length_singleton]
  exact (if_neg (not_bad_len low high)).trans (if_neg goes_on)

theorem extendFrame_of_last (last : bytes.length + 1 = (byteAt (bytes ++ [b]) 1).toNat + 4) :
    extendFrame port bytes b s
      = match parseFrame (bytes ++ [b]) with
        | some f => frameArrives port f (hunt port s)
        | none => hunt port s := by
  have whole : (bytes ++ [b]).length = (byteAt (bytes ++ [b]) 1).toNat + 4 := by
    rwa [List.length_append, List.length_singleton]
  exact (if_neg (not_bad_len low high)).trans (if_pos whole)

theorem extendFrame_of_no_frame (last : bytes.length + 1 = (byteAt (bytes ++ [b]) 1).toNat + 4)
    (none_such : ∀ f, bytes ++ [b] ≠ frameBytes f) : extendFrame port bytes b s = hunt port s := by
  rw [extendFrame_of_last low high last]
  split
  case h_1 f parsed => exact absurd (frameBytes_of_parseFrame parsed).symm (none_such f)
  case h_2 => rfl

end GoodLen

/-- Of a frame's bytes the second says how many there are. -/
theorem toNat_byteAt_one (short : f.body.length ≤ 240) : (byteAt (frameBytes f) 1).toNat = f.body.length + 2 :=
  toNat_frameLen short

theorem extendFrame_of_frame (whole : bytes ++ [b] = frameBytes f) (short : f.body.length ≤ 240) :
    extendFrame port bytes b s = frameArrives port f (hunt port s) := by
  have len : (byteAt (bytes ++ [b]) 1).toNat = f.body.length + 2 := by rw [whole, toNat_byteAt_one short]
  have last : bytes.length + 1 = f.body.length + 2 + 4 := by
    rw [← List.length_singleton (a := b), ← List.length_append, whole, length_frameBytes]
  rw [extendFrame_of_last (by omega) (by omega) (len.symm ▸ last), whole, parseFrame_frameBytes short]

/-! ### The bytes of a frame, one after the other -/

/-- A port whose receiver has taken some bytes of a frame. -/
def gathering (port : Port) (bytes : List Byte) (s : State) : State :=
  setPort port { portOf port s with receiver := .inFrame bytes, gapTimer := some (gapTime port) } s

theorem hunt_gathering (port : Port) (bytes : List Byte) (s : State) : hunt port (gathering port bytes s) = hunt port s := by
  rw [hunt_eq, gathering, portOf_setPort_same, setPort_setPort, hunt_eq]

theorem receiveByte_gathering (hears : deaf port s = false) :
    receiveByte port b (gathering port bytes s) = extendFrame port bytes b (gathering port bytes s) :=
  receiveByte_in_frame
    ((deaf_setPort (v := { portOf port s with receiver := .inFrame bytes, gapTimer := some (gapTime port) }) rfl).trans hears)
    (congrArg PortState.receiver (portOf_setPort_same _ port _))

theorem extendFrame_gathering_of_more (low : 2 ≤ (byteAt (bytes ++ [b]) 1).toNat)
    (high : (byteAt (bytes ++ [b]) 1).toNat ≤ 242) (more : bytes.length + 1 ≠ (byteAt (bytes ++ [b]) 1).toNat + 4) :
    extendFrame port bytes b (gathering port bytes s) = gathering port (bytes ++ [b]) s := by
  rw [extendFrame_of_more low high more, gathering, portOf_setPort_same, setPort_setPort, gathering]

/-- Behind the start byte the receiver gathers what stands before the last byte. -/
theorem foldl_receiveByte_in_frame (hears : deaf port s = false) (short : f.body.length ≤ 240) (last : Byte)
    (middle bytes : List Byte) (started : bytes ≠ []) (whole : bytes ++ (middle ++ [last]) = frameBytes f) :
    (middle ++ [last]).foldl (fun t b => receiveByte port b t) (gathering port bytes s)
      = frameArrives port f (hunt port s) := by
  induction middle generalizing bytes with
  | nil =>
    have ends : bytes ++ [last] = frameBytes f := whole
    rw [List.nil_append, List.foldl_cons, List.foldl_nil, receiveByte_gathering hears, extendFrame_of_frame ends short,
      hunt_gathering]
  | cons b middle ih =>
    have front : (bytes ++ [b]) ++ (middle ++ [last]) = frameBytes f := by
      rw [← whole, List.append_assoc, List.singleton_append, List.cons_append]
    have second : 1 < (bytes ++ [b]).length := by
      have := List.length_pos_iff.mpr started
      rw [List.length_append, List.length_singleton]
      omega
    have len : (byteAt (bytes ++ [b]) 1).toNat = f.body.length + 2 := by
      rw [← byteAt_append_left _ (middle ++ [last]) 1 second, front, toNat_byteAt_one short]
    have size : bytes.length + 1 + (middle.length + 1) = f.body.length + 6 := by
      rw [← length_frameBytes f, ← front]
      simp only [List.length_append, List.length_singleton]
    rw [List.cons_append, List.foldl_cons, receiveByte_gathering hears,
      extendFrame_gathering_of_more (by omega) (by omega) (by omega)]
    exact ih (bytes ++ [b]) (by simp) front

/-- A frame's bytes: the start byte, some in the middle, and a last one. -/
theorem frameBytes_split (f : Frame) : ∃ middle last, frameBytes f = 0xC3 :: (middle ++ [last]) :=
  ⟨checkedBytes f ++ [(crc (checkedBytes f)).extractLsb' 0 8], (crc (checkedBytes f)).extractLsb' 8 8, by
    rw [List.append_assoc]
    rfl⟩

/-! ### The end of a frame (R175, R178) -/

variable {t : TxFrame}

theorem endTransmission_of_idle (idle : (portOf port s).transmitter = none) : endTransmission port s = s := by
  unfold endTransmission
  rw [idle]

theorem endTransmission_of_report (sending : (portOf port s).transmitter = some t) (what : t.what = .report) :
    endTransmission port s = setPort port { portOf port s with transmitter := none } s := by
  unfold endTransmission
  rw [sending]
  dsimp only
  rw [what]
  rfl

theorem endTransmission_of_reply (sending : (portOf port s).transmitter = some t) (what : t.what = .reply) :
    endTransmission port s = nextInPort port (setPort port (replySent (portOf port s)) s) := by
  unfold endTransmission
  rw [sending]
  dsimp only
  rw [what]
  rfl

theorem endTransmission_of_busy (sending : (portOf port s).transmitter = some t) (what : t.what = .busy) :
    endTransmission port s = nextInPort port (setPort port (busySent (portOf port s)) s) := by
  unfold endTransmission
  rw [sending]
  dsimp only
  rw [what]
  rfl

theorem nextInPort_of_turn {r : BusyRefusal} (slot : v.refusal = some r) (turn : r.ahead = 0) :
    nextInPort port (setPort port v s)
      = setPort port { v with outstanding := some { what := .busy, frame := r.frame } } s := by
  unfold nextInPort
  rw [portOf_setPort_same]
  split
  case h_1 q waiting =>
    cases slot.symm.trans waiting
    exact (if_pos turn).trans (modifyPort_setPort port _ v s)
  case h_2 none_waits => cases slot.symm.trans none_waits

/-- With no BUSY refusal whose turn has come, the request at the head of the queue is taken. -/
theorem nextInPort_of_no_turn (later : ∀ r, v.refusal = some r → r.ahead ≠ 0) :
    nextInPort port (setPort port v s) = takeHead port (setPort port v s) := by
  unfold nextInPort
  rw [portOf_setPort_same]
  split
  case h_1 r slot => exact if_neg (later r slot)
  case h_2 => rfl

theorem takeHead_of_empty (empty : v.queue = []) : takeHead port (setPort port v s) = setPort port v s := by
  unfold takeHead
  rw [portOf_setPort_same, empty]

theorem takeHead_of_cons {more : List Frame} (head : v.queue = f :: more) :
    takeHead port (setPort port v s) = takeRequest port f (setPort port v s) := by
  unfold takeHead
  rw [portOf_setPort_same, head]

end Receiving

/-- Settles O38: behind the start byte the receiver gathers the bytes up to the last, which makes the frame whole. -/
theorem bytesOfAFrameAreItsArrival : Obligations.BytesOfAFrameAreItsArrival := by
  unfold Obligations.BytesOfAFrameAreItsArrival
  intro port f s hears hunting short
  obtain ⟨middle, last, split⟩ := frameBytes_split f
  have gathered := foldl_receiveByte_in_frame hears short last middle [0xC3] (List.cons_ne_nil _ _) split.symm
  rw [split, List.foldl_cons, receiveByte_of_start hears hunting]
  refine gathered.trans ?_
  rw [receiveFrame,
    if_neg (Bool.eq_false_iff.mp hears), if_pos short]

/-- Settles O37: by the receiver's state, and within a frame by what LEN says of the byte. -/
theorem receiverAssemblesFramesByteByByte : Obligations.ReceiverAssemblesFramesByteByByte := by
  unfold Obligations.ReceiverAssemblesFramesByteByByte
  refine ⟨fun port b ins before hears => ?bytes, fun port s => ?gap⟩
  case bytes =>
    intro s v gap hunting
    have hears : deaf port s = false := (deaf_sampleInputs port ins before).trans hears
    have ran {t : State} (same : receiveByte port b s = t) :
        exec (.byteReceived port ⟨b, ins⟩) before = .next (finish t) :=
      congrArg (fun t => Host.Outcome.next (finish t)) same
    have gap_time : gap = gapTime port := by cases port <;> rfl
    rw [gap_time]
    refine ⟨fun idle other => ?other, fun idle start => ?start, fun inside bad => ?bad,
      fun bytes inside low high more => ?more, fun bytes f inside whole short => ?frame,
      fun bytes inside low high last none_such => ?noFrame⟩
    case other => exact ran (receiveByte_of_no_start hears idle other)
    case start => subst start; exact ran (receiveByte_of_start hears idle)
    case bad => exact ran ((receiveByte_in_frame hears inside).trans (extendFrame_of_bad_len bad))
    case more => exact ran ((receiveByte_in_frame hears inside).trans (extendFrame_of_more low high more))
    case frame =>
      rw [ran ((receiveByte_in_frame hears inside).trans (extendFrame_of_frame whole short))]
      have arrival : receiveFrame port f s = frameArrives port f (hunt port s) := by
        rw [receiveFrame, if_neg (Bool.eq_false_iff.mp hears), if_pos short]
      exact congrArg (fun t => Host.Outcome.next (finish t)) arrival.symm
    case noFrame =>
      exact ran ((receiveByte_in_frame hears inside).trans (extendFrame_of_no_frame low high last none_such))
  case gap =>
    intro v
    refine ⟨fun runs => ?runs, fun stopped => ?stopped⟩
    case runs =>
      have expired : gapExpires port s = hunt port s := if_pos (Option.isSome_iff_ne_none.mpr runs)
      exact congrArg (fun t => Host.Outcome.next (finish t)) expired
    case stopped =>
      have nothing : gapExpires port s = s := if_neg (by simp [show (portOf port s).gapTimer = none from stopped])
      exact congrArg (fun t => Host.Outcome.next (finish t)) nothing

/-- Settles O39: a port that is not free places the frame or loses it; a free port takes it through the link checks. -/
theorem frameReceivedIsPlacedOrTaken : Obligations.FrameReceivedIsPlacedOrTaken := by
  unfold Obligations.FrameReceivedIsPlacedOrTaken
  refine ⟨fun port f ins before hears short => ?placed, fun port f ins before free short => ?taken,
    fun port kind tag body s => ?unknown⟩
  case placed =>
    intro s v u busy
    have arrived : receiveFrame port f s = placeFrame port f (setPort port v u) :=
      (receiveFrame_of_hearing ((deaf_sampleInputs port ins before).trans hears) short).trans (by cases port <;> rfl)
    have ran {t : State} (same : placeFrame port f (setPort port v u) = t) :
        exec (.frameReceived port ⟨f, ins⟩) before = .next (finish t) :=
      congrArg (fun t => Host.Outcome.next (finish t)) (arrived.trans same)
    exact ⟨fun room waits => ran (placeFrame_of_room room waits), fun full slot => ran (placeFrame_of_full full slot),
      fun full slot => ran (placeFrame_of_lost full slot)⟩
  case taken =>
    intro u
    have answer : exec (.frameReceived port ⟨f, ins⟩) before
        = answered port f (answerRequest port f u).2 (answerRequest port f u).1 :=
      receiveFrame_of_free port f _ short ((freePort_sampleInputs port ins before).trans free)
    refine ⟨fun unknown => ?_, fun n known other => ?_, fun known service only => ?_, fun known carried => ?_⟩
    · rw [answer, answerRequest_of_unknown unknown]
      rfl
    · rw [answer, answerRequest_of_bad_length known other]
      rfl
    · rw [answer, answerRequest_of_barred known service only]
      rfl
    · rw [answer, answerRequest_of_carried known carried]
  case unknown =>
    intro f none_such short free
    have answer := receiveFrame_of_free port f s short free
    rw [answerRequest_of_unknown (bodyLength_of_no_kind none_such)] at answer
    exact answer

/-- Settles O40: by what the transmitter was sending; behind a reply the refusal whose turn has come goes before the queue. -/
theorem transmitEndFreesThePlaceOfTheRequest : Obligations.TransmitEndFreesThePlaceOfTheRequest := by
  unfold Obligations.TransmitEndFreesThePlaceOfTheRequest
  intro port ins before s v rest aheadLess
  have ran {t : State} (same : endTransmission port s = t) :
      exec (.transmitEnd ⟨port, ins⟩) before = .next (finish t) :=
    congrArg (fun t => Host.Outcome.next (finish t)) same
  refine ⟨fun idle => ran (endTransmission_of_idle idle), fun t sending what => ran (endTransmission_of_report sending what),
    fun t sending what last slot => ?last, fun t r sending what slot turn => ?turn,
    fun t f more sending what next later => ?next, fun t f more sending what next => ?afterBusy⟩
  case last =>
    have sent : replySent v = { v with transmitter := none, queue := [] } := by
      change { v with transmitter := none, queue := rest, refusal := aheadLess } = _
      simp only [last, aheadLess, slot, Option.map_none]
    refine ran ((endTransmission_of_reply sending what).trans ?_)
    rw [sent, nextInPort_of_no_turn, takeHead_of_empty rfl]
    intro r waiting
    cases slot.symm.trans waiting
  case turn =>
    have gone : aheadLess = some { r with ahead := r.ahead - 1 } := by simp only [aheadLess, slot, Option.map_some]
    exact ran ((endTransmission_of_reply sending what).trans
      (nextInPort_of_turn (v := replySent v) (r := { r with ahead := r.ahead - 1 }) gone (congrArg (· - 1) turn)))
  case next =>
    refine ran ((endTransmission_of_reply sending what).trans ?_)
    have not_yet (r : BusyRefusal) (waiting : aheadLess = some r) : r.ahead ≠ 0 := by
      obtain ⟨q, slot, rfl⟩ := Option.map_eq_some_iff.mp waiting
      rcases later with none_waits | ⟨q', slot', ahead⟩
      · cases none_waits.symm.trans slot
      · cases slot'.symm.trans slot
        exact (Nat.sub_pos_of_lt ahead).ne'
    exact (nextInPort_of_no_turn not_yet).trans (takeHead_of_cons next)
  case afterBusy =>
    refine ran ((endTransmission_of_busy sending what).trans ?_)
    exact (nextInPort_of_no_turn fun r (waiting : none = some r) => nomatch waiting).trans (takeHead_of_cons next)

end Sys2Proof.Machine
end

section
/-! SUPPORT. What the lot register's counting leaves as it was: it writes its own lots and, through a supply state that
returns to OK, grants channels to waiting pockets (R48, R65, R139 to R147). -/

namespace Sys2Proof.Machine

variable {s t u : State} {p q : PocketNo} {c d : ChannelNo}

/-- What a counting event changes at most between s and t: lots, reports, ceiling and the arbiter, which grants channels that
are IDLE to pockets that wait. -/
structure Counted (s t : State) : Prop where
  elsewhere : t = { s with
    position := { s.position with speedCeiling := t.position.speedCeiling },
    gas := { s.gas with channels := t.gas.channels, waiting := t.gas.waiting, supply := t.gas.supply,
                        minInForce := t.gas.minInForce, selectors := t.gas.selectors },
    pockets := t.pockets, lots := t.lots, link := t.link, freeIx := t.freeIx }
  resting : s.gas.waiting = [] →
    t.gas.waiting = [] ∧ t.pockets = s.pockets ∧ t.gas.channels = s.gas.channels
  pocket : ∀ p : PocketNo, s.pockets[p].step ≠ .waitCharge → t.pockets[p] = s.pockets[p]
  lost : ∀ p : PocketNo, lostPocket t.pockets[p] = lostPocket s.pockets[p]
  channel : ∀ c : ChannelNo, s.gas.channels[c].state ≠ .idle → t.gas.channels[c] = s.gas.channels[c]

theorem Counted.refl (s : State) : Counted s s :=
  ⟨rfl, fun empty => ⟨empty, rfl, rfl⟩, fun _ _ => rfl, fun _ => rfl, fun _ _ => rfl⟩

theorem Counted.trans (h : Counted s t) (k : Counted t u) : Counted s u := by
  refine ⟨?_, fun empty => ?_, fun p other => ?_, fun p => (k.lost p).trans (h.lost p), fun c busy => ?_⟩
  · rw [k.elsewhere, h.elsewhere]
  · obtain ⟨waiting, pockets, channels⟩ := h.resting empty
    obtain ⟨waiting', pockets', channels'⟩ := k.resting waiting
    exact ⟨waiting', pockets'.trans pockets, channels'.trans channels⟩
  · have same := h.pocket p other
    exact (k.pocket p (same ▸ other)).trans same
  · have same := h.channel c busy
    exact (k.channel c (same ▸ busy)).trans same

/-- Lots, free values and reports are a counting event's own. -/
theorem lots_counted (s : State) (l : LotRegister) (n : Nat) : Counted s { s with lots := l, freeIx := n } :=
  ⟨rfl, fun empty => ⟨empty, rfl, rfl⟩, fun _ _ => rfl, fun _ => rfl, fun _ _ => rfl⟩

theorem sendReport_counted (r : Report) (s : State) : Counted s (sendReport r s) := by
  rw [sendReport_eq]
  exact ⟨rfl, fun empty => ⟨empty, rfl, rfl⟩, fun _ _ => rfl, fun _ => rfl, fun _ _ => rfl⟩

/-! ### The grants -/

theorem getElem_announceGrant_of_other (other : s.pockets[p].step ≠ .waitCharge) (q : PocketNo) (c : ChannelNo) :
    (announceGrant q c s).pockets[p] = s.pockets[p] := by
  unfold announceGrant
  dsimp only
  split
  case isTrue waits => exact getElem_setPocket_ne (fun same : q = p => other (same ▸ waits)) _ s
  case isFalse => rfl

/-- A grant keeps what a pocket carries, but for the channel in its can record. -/
theorem lostPocket_announceGrant (q : PocketNo) (c : ChannelNo) (s : State) (p : PocketNo) :
    lostPocket (announceGrant q c s).pockets[p] = lostPocket s.pockets[p] := by
  unfold announceGrant
  dsimp only
  split
  case isFalse => rfl
  case isTrue =>
    by_cases same : q = p
    · subst same
      rw [getElem_setPocket_self]
      unfold lostPocket
      cases content : s.pockets[q].content <;> rfl
    · rw [getElem_setPocket_ne same]

theorem lowestIdle_idle (found : lowestIdle s = some c) : s.gas.channels[c].state = .idle := by
  have idle := List.find?_some found
  exact of_decide_eq_true idle

/-- The state in which a grant of channel c to pocket p is announced. -/
def chargeOpened (c : ChannelNo) (p : PocketNo) (s : State) : State :=
  setSelector p (some c) (modifyChannel c (grantedChannel p s) { s with gas := { s.gas with waiting := s.gas.waiting.erase p } })

theorem grantChannel_eq (c : ChannelNo) (p : PocketNo) (s : State) :
    grantChannel c p s = announceGrant p c (chargeOpened c p s) := rfl

theorem grantOnce_of_resting (empty : s.gas.waiting = []) : grantOnce s = s := by
  unfold grantOnce
  rw [empty]
  split
  case h_1 cons _ => cases cons
  case h_2 => rfl

theorem grantOnce_of_low (low : s.gas.supply = .low) : grantOnce s = s := by
  unfold grantOnce
  rw [low]

theorem grantSearch_of_resting (empty : s.gas.waiting = []) : grantSearch s = s := by
  simp only [grantSearch, grantOnce_of_resting empty]

theorem grantSearch_of_low (low : s.gas.supply = .low) : grantSearch s = s := by
  simp only [grantSearch, grantOnce_of_low low]

theorem grantOnce_counted (s : State) : Counted s (grantOnce s) := by
  refine ⟨by rw [grantOnce_eq s], fun empty => ?_, fun p other => ?_, fun p => ?_, fun c busy => ?_⟩
  · rw [grantOnce_of_resting empty]
    exact ⟨empty, rfl, rfl⟩
  · unfold grantOnce
    split
    · exact (getElem_announceGrant_of_other (s := chargeOpened _ _ s) other _ _).trans rfl
    · rfl
  · unfold grantOnce
    split
    · exact lostPocket_announceGrant _ _ (chargeOpened _ _ s) p
    · rfl
  · unfold grantOnce
    split
    case h_1 d _ _ found =>
      have ne : d ≠ c := fun same => busy (same ▸ lowestIdle_idle found)
      rw [grantChannel_eq, announceGrant_eq]
      exact getElem_setChannel_ne ne _ s
    case h_2 => rfl

theorem grantSearch_counted (s : State) : Counted s (grantSearch s) :=
  (grantOnce_counted s).trans ((grantOnce_counted _).trans ((grantOnce_counted _).trans (grantOnce_counted _)))

/-! ### The slots handed on (R12, R65, R139) -/

theorem evaluateSupply_counted (s : State) : Counted s (evaluateSupply s) := by
  have judged (g : SupplyState) (r : Report) : Counted s (sendReport r { s with gas := { s.gas with supply := g } }) :=
    Counted.trans (t := { s with gas := { s.gas with supply := g } })
      ⟨rfl, fun empty => ⟨empty, rfl, rfl⟩, fun _ _ => rfl, fun _ => rfl, fun _ _ => rfl⟩ (sendReport_counted r _)
  unfold evaluateSupply
  dsimp only
  split
  · exact Counted.refl s
  · split
    · exact (judged _ _).trans (grantSearch_counted _)
    · exact judged _ _

theorem refreshSlots_counted (s : State) : Counted s (refreshSlots s) := by
  unfold refreshSlots
  refine Counted.trans ?_ (evaluateSupply_counted _)
  exact ⟨rfl, fun empty => ⟨empty, rfl, rfl⟩, fun _ _ => rfl, fun _ => rfl, fun _ _ => rfl⟩

/-! ### The counting events (R141, R142, R146, R147) -/

theorem commitClosing_counted (l : LotRecord) (s : State) : Counted s (commitClosing l s) := by
  unfold commitClosing
  exact ((sendReport_counted _ s).trans (sendReport_counted _ _)).trans
    ((lots_counted _ _ _).trans (refreshSlots_counted _))

theorem settleLot_counted (lot : LotId) (s : State) : Counted s (settleLot lot s) := by
  unfold settleLot
  split
  · split
    · exact commitClosing_counted _ s
    · exact Counted.refl s
  · exact Counted.refl s

theorem putLot_counted (l : LotRecord) (n : Nat) (s : State) : Counted s { putLot l s with freeIx := n } := by
  rw [putLot_eq]
  exact lots_counted s _ n

theorem countEvent_counted (lot : LotId) (count : LotRecord → Nat) (write : Nat → LotRecord → LotRecord) (s : State) :
    Counted s (countEvent lot count write s) := by
  unfold countEvent
  split
  · exact (putLot_counted _ _ s).trans (settleLot_counted lot _)
  · exact Counted.refl s

theorem countAdmission_counted (lot : LotId) (s : State) : Counted s (countAdmission lot s) := countEvent_counted lot _ _ s

theorem countLost_counted (lot : LotId) (s : State) : Counted s (countLost lot s) := countEvent_counted lot _ _ s

theorem countArrival_counted (lot : LotId) (d : Disposition) (s : State) : Counted s (countArrival lot d s) := by
  unfold countArrival
  split <;> exact countEvent_counted lot _ _ s

theorem countNoCan_counted (lot : LotId) (s : State) : Counted s (countNoCan lot s) := by
  unfold countNoCan
  split
  · refine Counted.trans ?_ (settleLot_counted lot _)
    rw [putLot_eq]
    exact lots_counted s _ _
  · exact Counted.refl s

theorem leaveCounted_counted (p : PocketNo) (canSeen : Bool) (s : State) : Counted s (leaveCounted p canSeen s) := by
  unfold leaveCounted
  split
  · split
    · exact lots_counted s _ _
    · exact Counted.refl s
  · exact Counted.refl s

theorem settleBoundary_counted (s : State) : Counted s (settleBoundary s) := by
  unfold settleBoundary
  split
  · split
    · exact commitClosing_counted _ s
    · exact sendReport_counted _ s
  · exact Counted.refl s

theorem boundaryOffer_counted (plan : ChangePlan) (s : State) : Counted s (boundaryOffer plan s) := by
  unfold boundaryOffer
  exact ((lots_counted s _ _).trans (refreshSlots_counted _)).trans (settleBoundary_counted _)

theorem offerLot_counted (p : PocketNo) (s : State) : Counted s (offerLot p s) := by
  unfold offerLot
  split
  · split
    · exact boundaryOffer_counted _ s
    · exact lots_counted s _ _
  · exact lots_counted s _ _

end Sys2Proof.Machine
end

section
/-! SUPPORT. HALT entry at the blocks (R40, R42, R53, R78): what becomes of each channel, each pocket and each head. -/

namespace Sys2Proof.Machine

variable {s t : State} {p q : PocketNo} {c d : ChannelNo}

/-! ### A fold over a table, seen at one entry -/

/-- An operation made once for each number of a list, of which only the one for `a` touches what `view` shows. -/
theorem foldl_view {α β : Type} {f : State → α → State} {view : State → β} {g : β → β} {a : α}
    (self : ∀ t, view (f t a) = g (view t)) (other : ∀ t b, b ≠ a → view (f t b) = view t) {l : List α} (once : l.Nodup)
    (mem : a ∈ l) (t : State) : view (l.foldl f t) = g (view t) := by
  have passes (l : List α) (out : a ∉ l) (t : State) : view (l.foldl f t) = view t := by
    induction l generalizing t with
    | nil => rfl
    | cons b l ih =>
      obtain ⟨ne, out⟩ := List.ne_and_not_mem_of_not_mem_cons out
      exact (ih out _).trans (other t b ne.symm)
  induction l generalizing t with
  | nil => cases mem
  | cons b l ih =>
    obtain ⟨out, once⟩ := List.nodup_cons.mp once
    rcases List.mem_cons.mp mem with rfl | mem
    · exact (passes l out _).trans (self t)
    · exact (ih once mem _).trans (congrArg g (other t b fun same => out (same ▸ mem)))

theorem forHeads_view {β : Type} {f : PocketNo → State → State} {view : State → β} {g : β → β}
    (self : ∀ t, view (f p t) = g (view t)) (other : ∀ t q, q ≠ p → view (f q t) = view t) (t : State) :
    view (forHeads f t) = g (view t) :=
  foldl_view (f := fun s p => f p s) self other (List.nodup_finRange 24) (List.mem_finRange p) t

/-! ### The waiting list is emptied (R53, R29) -/

/-- A pocket taken from the waiting list by HALT: CHARGED, with CHARGE_MISSED on its can. -/
def missedPocket (k : Pocket) : Pocket :=
  { k with
    step := .charged,
    content := match k.content with
      | .can r => .can (withReasons [.chargeMissed] r)
      | other => other }

theorem announceRemoval_of_waiting (waits : s.pockets[p].step = .waitCharge) :
    announceRemoval p s = setPocket p (missedPocket s.pockets[p]) s := if_pos waits

theorem announceRemoval_of_not_waiting (other : s.pockets[p].step ≠ .waitCharge) : announceRemoval p s = s :=
  if_neg other

theorem announceRemoval_eq (p : PocketNo) (s : State) :
    announceRemoval p s = { s with pockets := (announceRemoval p s).pockets } := by
  unfold announceRemoval
  dsimp only
  split <;> rfl

theorem getElem_announceRemoval_self (p : PocketNo) (s : State) :
    (announceRemoval p s).pockets[p]
      = if s.pockets[p].step = .waitCharge then missedPocket s.pockets[p] else s.pockets[p] := by
  split
  case isTrue waits => rw [announceRemoval_of_waiting waits, getElem_setPocket_self]
  case isFalse other => rw [announceRemoval_of_not_waiting other]

theorem getElem_announceRemoval_ne (h : q ≠ p) (s : State) : (announceRemoval q s).pockets[p] = s.pockets[p] := by
  by_cases waits : s.pockets[q].step = .waitCharge
  · rw [announceRemoval_of_waiting waits, getElem_setPocket_ne h]
  · rw [announceRemoval_of_not_waiting waits]

/-- The announcements made to every pocket of a list write pockets alone. -/
theorem removals_eq (l : List PocketNo) (s : State) :
    l.foldl (fun s p => announceRemoval p s) s
      = { s with pockets := (l.foldl (fun s p => announceRemoval p s) s).pockets } := by
  induction l generalizing s with
  | nil => rfl
  | cons q l ih => rw [List.foldl_cons, ih, announceRemoval_eq]

theorem getElem_removals (l : List PocketNo) (s : State) :
    (l.foldl (fun s p => announceRemoval p s) s).pockets[p]
      = if s.pockets[p].step = .waitCharge ∧ p ∈ l then missedPocket s.pockets[p] else s.pockets[p] := by
  induction l generalizing s with
  | nil => simp
  | cons q l ih =>
    rw [List.foldl_cons, ih]
    by_cases same : q = p
    · subst same
      rw [getElem_announceRemoval_self]
      by_cases waits : s.pockets[q].step = .waitCharge
      · rw [if_pos waits, if_neg (by simp [missedPocket]), if_pos ⟨waits, List.mem_cons_self⟩]
      · rw [if_neg waits, if_neg fun both => waits both.1, if_neg fun both => waits both.1]
    · rw [getElem_announceRemoval_ne same]
      simp [Ne.symm same]

/-! ### Every charge closes (R53, R54) -/

/-- Whether a channel is CHARGING for a pocket (R53, R54). -/
abbrev ChargesFor (p : PocketNo) (ch : Channel) : Prop := ch.state = .charging ∧ (ch.grant.map (·.pocket)) = some p

theorem announceClose_eq (p : PocketNo) (s : State) :
    announceClose p s = { s with pockets := (announceClose p s).pockets } := by
  unfold announceClose
  dsimp only
  split <;> rfl

theorem getElem_announceClose_self (p : PocketNo) (s : State) :
    (announceClose p s).pockets[p]
      = if s.pockets[p].step = .charging then { s.pockets[p] with step := .charged } else s.pockets[p] := by
  unfold announceClose
  dsimp only
  split
  · exact getElem_setPocket_self p _ s
  · rfl

theorem getElem_announceClose_ne (h : q ≠ p) (s : State) : (announceClose q s).pockets[p] = s.pockets[p] := by
  unfold announceClose
  dsimp only
  split
  · exact getElem_setPocket_ne h _ s
  · rfl

/-- The selector of a head commanded closed. -/
theorem getElem_setSelector (p q : PocketNo) (s : State) :
    (setSelector q none s).gas.selectors[p] = if q = p then none else s.gas.selectors[p] := by
  split
  case isTrue same => subst same; exact Vector.getElem_set_self q.isLt
  case isFalse ne => exact Vector.getElem_set_ne q.isLt p.isLt (Fin.val_ne_of_ne ne)

theorem closeCharge_of_grant {cause : CloseCause} {g : Grant} (granted : s.gas.channels[c].grant = some g) :
    closeCharge c cause s = announceClose g.pocket (setSelector g.pocket none
      (setChannel c (closedChannel cause s.gas.channels[c]) s)) := by
  unfold closeCharge
  dsimp only
  rw [granted]
  rfl

theorem closeCharge_of_no_grant {cause : CloseCause} (bare : s.gas.channels[c].grant = none) :
    closeCharge c cause s = setChannel c (closedChannel cause s.gas.channels[c]) s := by
  unfold closeCharge
  dsimp only
  rw [bare]
  rfl

/-- A close writes channels, selectors and pockets alone. -/
theorem closeCharge_eq (c : ChannelNo) (cause : CloseCause) (s : State) :
    closeCharge c cause s = { s with
      gas := { s.gas with channels := s.gas.channels.set c (closedChannel cause s.gas.channels[c]),
                          selectors := (closeCharge c cause s).gas.selectors },
      pockets := (closeCharge c cause s).pockets } := by
  cases grant : s.gas.channels[c].grant with
  | none => rw [closeCharge_of_no_grant grant]; rfl
  | some g => rw [closeCharge_of_grant grant, announceClose_eq]; rfl

theorem getElem_closeCharge_self (c : ChannelNo) (cause : CloseCause) (s : State) :
    (closeCharge c cause s).gas.channels[c] = closedChannel cause s.gas.channels[c] := by
  rw [closeCharge_eq]
  exact getElem_setChannel_self c _ s

theorem getElem_closeCharge_ne {cause : CloseCause} (h : d ≠ c) (s : State) :
    (closeCharge d cause s).gas.channels[c] = s.gas.channels[c] := by
  rw [closeCharge_eq]
  exact getElem_setChannel_ne h _ s

/-- What a close does to a pocket, and to a selector: it is that of the pocket the channel was granted to. -/
theorem getElem_closeCharge_pocket (c : ChannelNo) (cause : CloseCause) (p : PocketNo) (s : State) :
    (closeCharge c cause s).pockets[p] =
        (if s.pockets[p].step = .charging ∧ (s.gas.channels[c].grant.map (·.pocket)) = some p then
          { s.pockets[p] with step := .charged } else s.pockets[p])
      ∧ (closeCharge c cause s).gas.selectors[p] =
        (if (s.gas.channels[c].grant.map (·.pocket)) = some p then none else s.gas.selectors[p]) := by
  cases grant : s.gas.channels[c].grant with
  | none =>
    rw [closeCharge_of_no_grant grant]
    simp only [Option.map_none, reduceCtorEq, and_false, if_false]
    exact ⟨rfl, rfl⟩
  | some g =>
    rw [closeCharge_of_grant grant]
    simp only [Option.map_some, Option.some.injEq]
    by_cases same : g.pocket = p
    · subst same
      refine ⟨(getElem_announceClose_self _ _).trans ?_, ?_⟩
      · simp only [and_true]
        rfl
      · rw [announceClose_eq]
        exact getElem_setSelector _ _ _
    · refine ⟨(getElem_announceClose_ne same _).trans ?_, ?_⟩
      · simp only [same, and_false, if_false]
        rfl
      · rw [announceClose_eq]
        exact getElem_setSelector _ _ _

/-- The charges of the channels of a list close. -/
def closes (cause : CloseCause) (l : List ChannelNo) (s : State) : State := l.foldl (fun s c => closeIfCharging cause c s) s

theorem closes_cons (cause : CloseCause) (d : ChannelNo) (l : List ChannelNo) (s : State) :
    closes cause (d :: l) s = closes cause l (closeIfCharging cause d s) := rfl

theorem forChannels_closeIfCharging (cause : CloseCause) (s : State) :
    forChannels (closeIfCharging cause) s = closes cause (List.finRange 4) s := rfl

/-- Whether one of the channels of a list is CHARGING for a pocket. -/
def SomeCharges (p : PocketNo) (l : List ChannelNo) (s : State) : Prop := ∃ c ∈ l, ChargesFor p s.gas.channels[c]

theorem someCharges_cons (p : PocketNo) (d : ChannelNo) (l : List ChannelNo) (s : State) :
    SomeCharges p (d :: l) s ↔ ChargesFor p s.gas.channels[d] ∨ SomeCharges p l s :=
  List.exists_mem_cons_iff _ _ _

/-- A channel that is not in the list charges on as it did. -/
theorem someCharges_closeCharge {cause : CloseCause} {l : List ChannelNo} (out : d ∉ l) (p : PocketNo) (s : State) :
    SomeCharges p l (closeCharge d cause s) ↔ SomeCharges p l s :=
  exists_congr fun c => and_congr_right fun mem => by
    rw [getElem_closeCharge_ne (fun same : d = c => out (same ▸ mem))]

/-- What the closes do to a selector: closed where a charge of the list was for its pocket, and never opened. -/
theorem selector_closes {cause : CloseCause} {l : List ChannelNo} (once : l.Nodup) (p : PocketNo) (s : State)
    (shut : SomeCharges p l s ∨ s.gas.selectors[p] = none) : (closes cause l s).gas.selectors[p] = none := by
  induction l generalizing s with
  | nil =>
    refine shut.resolve_left ?_
    rintro ⟨c, mem, -⟩
    cases mem
  | cons d l ih =>
    obtain ⟨out, once⟩ := List.nodup_cons.mp once
    rw [closes_cons]
    refine ih once _ ?_
    rw [someCharges_cons] at shut
    unfold closeIfCharging
    split
    case isFalse idle => exact shut.imp_left fun charges => charges.resolve_left fun first => idle first.1
    case isTrue charging =>
      rw [(getElem_closeCharge_pocket d cause p s).2, someCharges_closeCharge out]
      rcases shut with (first | later) | selector
      · exact .inr (if_pos first.2)
      · exact .inl later
      · exact .inr (by rw [selector, ite_self])

theorem pocket_closes_of_not_charging {cause : CloseCause} {l : List ChannelNo} (p : PocketNo) (s : State)
    (other : s.pockets[p].step ≠ .charging) : (closes cause l s).pockets[p] = s.pockets[p] := by
  induction l generalizing s with
  | nil => rfl
  | cons d l ih =>
    have kept : (closeIfCharging cause d s).pockets[p] = s.pockets[p] := by
      unfold closeIfCharging
      split
      · rw [(getElem_closeCharge_pocket d cause p s).1]
        exact if_neg fun both => other both.1
      · rfl
    rw [closes_cons, ih _ (by rw [kept]; exact other), kept]

/-- A CHARGING pocket is CHARGED where a charge of the list was for it. -/
theorem pocket_closes_of_charges {cause : CloseCause} {l : List ChannelNo} (once : l.Nodup) (p : PocketNo) (s : State)
    (step : s.pockets[p].step = .charging) (some_charges : SomeCharges p l s) :
    (closes cause l s).pockets[p] = { s.pockets[p] with step := .charged } := by
  induction l generalizing s with
  | nil =>
    obtain ⟨c, mem, -⟩ := some_charges
    cases mem
  | cons d l ih =>
    obtain ⟨out, once⟩ := List.nodup_cons.mp once
    rw [someCharges_cons] at some_charges
    rw [closes_cons]
    unfold closeIfCharging
    split
    case isFalse idle => exact ih once s step (some_charges.resolve_left fun first => idle first.1)
    case isTrue charging =>
      have pocket := (getElem_closeCharge_pocket d cause p s).1
      by_cases mine : (s.gas.channels[d].grant.map (·.pocket)) = some p
      · have charged : (closeCharge d cause s).pockets[p] = { s.pockets[p] with step := .charged } :=
          pocket.trans (if_pos ⟨step, mine⟩)
        rw [pocket_closes_of_not_charging p _ (by rw [charged]; exact nofun), charged]
      · have kept : (closeCharge d cause s).pockets[p] = s.pockets[p] := pocket.trans (if_neg fun both => mine both.2)
        have later := some_charges.resolve_left fun first => mine first.2
        rw [ih once _ (by rw [kept]; exact step) ((someCharges_closeCharge out p s).mpr later), kept]

theorem pocket_closes_of_no_charges {cause : CloseCause} {l : List ChannelNo} (once : l.Nodup) (p : PocketNo) (s : State)
    (none_charges : ¬ SomeCharges p l s) : (closes cause l s).pockets[p] = s.pockets[p] := by
  induction l generalizing s with
  | nil => rfl
  | cons d l ih =>
    obtain ⟨out, once⟩ := List.nodup_cons.mp once
    rw [someCharges_cons, not_or] at none_charges
    obtain ⟨not_first, not_later⟩ := none_charges
    rw [closes_cons]
    unfold closeIfCharging
    split
    case isFalse => exact ih once s not_later
    case isTrue charging =>
      have kept : (closeCharge d cause s).pockets[p] = s.pockets[p] :=
        (getElem_closeCharge_pocket d cause p s).1.trans (if_neg fun both => not_first ⟨charging, both.2⟩)
      rw [ih once _ (mt (someCharges_closeCharge out p s).mp not_later), kept]

theorem getElem_closes_channel {l : List ChannelNo} (once : l.Nodup) (mem : c ∈ l) (cause : CloseCause) (s : State) :
    (closes cause l s).gas.channels[c]
      = if s.gas.channels[c].state = .charging then closedChannel cause s.gas.channels[c] else s.gas.channels[c] := by
  refine foldl_view (f := fun s c => closeIfCharging cause c s) (view := fun t => t.gas.channels[c])
    (g := fun ch => if ch.state = .charging then closedChannel cause ch else ch) (a := c) (fun t => ?_) (fun t d ne => ?_)
    once mem s
  · dsimp only [closeIfCharging]
    split
    · exact getElem_closeCharge_self c cause t
    · rfl
  · dsimp only [closeIfCharging]
    split
    · exact getElem_closeCharge_ne ne t
    · rfl

/-! ### What HALT entry at the blocks leaves as it was -/

/-- What HALT does at most at the blocks: it writes waiting list, channels, selectors, pockets, strokes and heads, and
reports. -/
def BlocksOnly (s t : State) : Prop :=
  t = { s with
    gas := { s.gas with waiting := t.gas.waiting, channels := t.gas.channels, selectors := t.gas.selectors },
    pockets := t.pockets, crimp := t.crimp, heads := t.heads, link := t.link }

theorem BlocksOnly.trans {u : State} (h : BlocksOnly s t) (k : BlocksOnly t u) : BlocksOnly s u := by
  unfold BlocksOnly at *
  rw [k, h]

theorem HeadsOnly.blocksOnly (h : HeadsOnly s t) : BlocksOnly s t := by
  unfold BlocksOnly
  rw [h]

theorem closes_elsewhere (cause : CloseCause) (l : List ChannelNo) (s : State) :
    closes cause l s = { s with
      gas := { s.gas with channels := (closes cause l s).gas.channels, selectors := (closes cause l s).gas.selectors },
      pockets := (closes cause l s).pockets } := by
  induction l generalizing s with
  | nil => rfl
  | cons d l ih =>
    rw [closes_cons, ih]
    unfold closeIfCharging
    split
    · rw [closeCharge_eq]
    · rfl

theorem closes_blocksOnly (cause : CloseCause) (l : List ChannelNo) (s : State) : BlocksOnly s (closes cause l s) := by
  unfold BlocksOnly
  rw [closes_elsewhere]

/-! ### The whole of the arbiter at HALT (R53) -/

/-- The waiting list emptied and each of its pockets told, before the charges close. -/
def waitingDropped (s : State) : State :=
  s.gas.waiting.foldl (fun s p => announceRemoval p s) { s with gas := { s.gas with waiting := [] } }

theorem waitingDropped_eq (s : State) :
    waitingDropped s = { s with gas := { s.gas with waiting := [] }, pockets := (waitingDropped s).pockets } := by
  unfold waitingDropped
  rw [removals_eq]

theorem waitingDropped_channels (s : State) : (waitingDropped s).gas.channels = s.gas.channels := by
  rw [waitingDropped_eq]

theorem waitingDropped_blocksOnly (s : State) : BlocksOnly s (waitingDropped s) := by
  unfold BlocksOnly
  rw [waitingDropped_eq]

theorem haltGas_eq (s : State) : haltGas s = closes .halt (List.finRange 4) (waitingDropped s) := rfl

theorem haltGas_blocksOnly (s : State) : BlocksOnly s (haltGas s) :=
  (haltGas_eq s) ▸ (waitingDropped_blocksOnly s).trans (closes_blocksOnly _ _ _)

theorem haltGas_waiting (s : State) : (haltGas s).gas.waiting = [] := by
  rw [haltGas_eq, closes_elsewhere, waitingDropped_eq]

theorem getElem_haltGas_channel (c : ChannelNo) (s : State) :
    (haltGas s).gas.channels[c]
      = if s.gas.channels[c].state = .charging then closedChannel .halt s.gas.channels[c] else s.gas.channels[c] := by
  rw [haltGas_eq, getElem_closes_channel (List.nodup_finRange 4) (List.mem_finRange c), waitingDropped_channels]

theorem someCharges_waitingDropped {l : List ChannelNo} : SomeCharges p l (waitingDropped s) ↔ SomeCharges p l s := by
  unfold SomeCharges
  rw [waitingDropped_channels]

theorem haltGas_selector {g : Grant} (charging : s.gas.channels[c].state = .charging)
    (granted : s.gas.channels[c].grant = some g) : (haltGas s).gas.selectors[g.pocket] = none := by
  have charges : SomeCharges g.pocket (List.finRange 4) (waitingDropped s) :=
    someCharges_waitingDropped.mpr ⟨c, List.mem_finRange c, charging, by rw [granted]; rfl⟩
  rw [haltGas_eq]
  exact selector_closes (List.nodup_finRange 4) g.pocket _ (.inl charges)

section HaltPocket

theorem haltGas_pocket_of_missed (waits : s.pockets[p].step = .waitCharge) (listed : p ∈ s.gas.waiting) :
    (haltGas s).pockets[p] = missedPocket s.pockets[p] := by
  have dropped : (waitingDropped s).pockets[p] = missedPocket s.pockets[p] :=
    (getElem_removals _ _).trans (if_pos ⟨waits, listed⟩)
  rw [haltGas_eq, pocket_closes_of_not_charging p _ (by rw [dropped]; exact nofun), dropped]

theorem waitingDropped_pocket_of_not_missed (other : ¬ (s.pockets[p].step = .waitCharge ∧ p ∈ s.gas.waiting)) :
    (waitingDropped s).pockets[p] = s.pockets[p] := (getElem_removals _ _).trans (if_neg other)

theorem haltGas_pocket_of_charging (charges : s.pockets[p].step = .charging)
    (by_channel : SomeCharges p (List.finRange 4) s) : (haltGas s).pockets[p] = { s.pockets[p] with step := .charged } := by
  have kept : (waitingDropped s).pockets[p] = s.pockets[p] :=
    waitingDropped_pocket_of_not_missed fun both => absurd (charges.symm.trans both.1) (by decide)
  rw [haltGas_eq, pocket_closes_of_charges (List.nodup_finRange 4) p _ (by rw [kept]; exact charges)
    (someCharges_waitingDropped.mpr by_channel), kept]

theorem haltGas_pocket_of_other (not_missed : ¬ (s.pockets[p].step = .waitCharge ∧ p ∈ s.gas.waiting))
    (not_charging : ¬ (s.pockets[p].step = .charging ∧ SomeCharges p (List.finRange 4) s)) :
    (haltGas s).pockets[p] = s.pockets[p] := by
  have kept : (waitingDropped s).pockets[p] = s.pockets[p] := waitingDropped_pocket_of_not_missed not_missed
  rw [haltGas_eq]
  by_cases charges : s.pockets[p].step = .charging
  · have none_charges : ¬ SomeCharges p (List.finRange 4) s := fun by_channel => not_charging ⟨charges, by_channel⟩
    rw [pocket_closes_of_no_charges (List.nodup_finRange 4) p _ (mt someCharges_waitingDropped.mp none_charges), kept]
  · rw [pocket_closes_of_not_charging p _ (by rw [kept]; exact charges), kept]

end HaltPocket

/-! ### Interrupted calibrations (R42, R84, R95) -/

/-- What pocket p, its crimp head and its head show. -/
def headView (p : PocketNo) (s : State) : Pocket × CrimpHead × Head := (s.pockets[p], s.crimp[p], s.heads[p])

/-- A calibration revolution ended: the pocket IDLE, the jaw commanded open, the stroke discarded, and a RESEATING head
RESEAT_PENDING. -/
def interruptedView : Pocket × CrimpHead × Head → Pocket × CrimpHead × Head := fun (k, j, h) =>
  if k.step = .calPass then
    ({ k with step := .idle }, { j with jawClosed := false, stroke := none },
      if h.state = .reseating then { h with state := .reseatPending } else h)
  else (k, j, h)

theorem getElem_interruptHead_self (p : PocketNo) (s : State) :
    (interruptHead p s).heads[p]
      = if s.heads[p].state = .reseating then { s.heads[p] with state := .reseatPending } else s.heads[p] := by
  unfold interruptHead
  split
  · exact getElem_moveHead_self _ _ _ _
  · rfl

theorem getElem_interruptHead_ne (h : q ≠ p) (s : State) : (interruptHead q s).heads[p] = s.heads[p] := by
  unfold interruptHead
  split
  · exact getElem_moveHead_ne h _ _ _
  · rfl

theorem interruptCalibration_of_pass (pass : s.pockets[p].step = .calPass) :
    interruptCalibration p s = interruptHead p (setCrimp p { s.crimp[p] with jawClosed := false, stroke := none }
      (setPocket p { s.pockets[p] with step := .idle } s)) := if_pos pass

theorem headView_interruptCalibration_self (p : PocketNo) (s : State) :
    headView p (interruptCalibration p s) = interruptedView (headView p s) := by
  unfold interruptedView headView
  dsimp only
  by_cases pass : s.pockets[p].step = .calPass
  · rw [interruptCalibration_of_pass pass, if_pos pass, getElem_interruptHead_self, interruptHead_eq]
    refine congrArg₂ Prod.mk (getElem_setPocket_self p _ s) (congrArg₂ Prod.mk ?_ rfl)
    exact getElem_setCrimp_self p _ _
  · rw [if_neg pass, interruptCalibration, if_neg pass]

theorem headView_interruptCalibration_ne (h : q ≠ p) (s : State) :
    headView p (interruptCalibration q s) = headView p s := by
  unfold headView
  by_cases pass : s.pockets[q].step = .calPass
  · rw [interruptCalibration_of_pass pass, getElem_interruptHead_ne h, interruptHead_eq]
    refine congrArg₂ Prod.mk (getElem_setPocket_ne h _ s) (congrArg₂ Prod.mk ?_ rfl)
    exact getElem_setCrimp_ne h _ _
  · rw [interruptCalibration, if_neg pass]

theorem headView_forHeads_interruptCalibration (p : PocketNo) (s : State) :
    headView p (forHeads interruptCalibration s) = interruptedView (headView p s) :=
  forHeads_view (p := p) (view := headView p) (headView_interruptCalibration_self p)
    (fun t _ ne => headView_interruptCalibration_ne ne t) s

/-! ### All blocks together -/

theorem haltPockets_blocksOnly (s : State) : BlocksOnly s (haltPockets s) := by
  dsimp only [BlocksOnly, haltPockets]

theorem haltStrokes_blocksOnly (s : State) : BlocksOnly s (haltStrokes s) := by
  dsimp only [BlocksOnly, haltStrokes]

/-- HALT entry at the blocks reaches neither counters nor lots nor the trail. -/
theorem haltBlocks_blocksOnly (s : State) : BlocksOnly s (haltBlocks s) :=
  (haltPockets_blocksOnly s).trans ((haltGas_blocksOnly _).trans
    ((haltStrokes_blocksOnly _).trans (forHeads_interruptCalibration_elsewhere _).blocksOnly))

theorem haltStrokes_gas (s : State) : (haltStrokes s).gas = s.gas := by
  dsimp only [haltStrokes]

theorem haltStrokes_pockets_heads (s : State) :
    (haltStrokes s).pockets = s.pockets ∧ (haltStrokes s).heads = s.heads := by
  dsimp only [haltStrokes]
  exact ⟨rfl, rfl⟩

theorem haltPockets_gas_crimp_heads (s : State) :
    (haltPockets s).gas = s.gas ∧ (haltPockets s).crimp = s.crimp ∧ (haltPockets s).heads = s.heads := by
  dsimp only [haltPockets]
  exact ⟨rfl, rfl, rfl⟩

theorem haltBlocks_gas (s : State) : (haltBlocks s).gas = (haltGas (haltPockets s)).gas :=
  (forHeads_gas interruptCalibration_gas _).trans (haltStrokes_gas _)

theorem getElem_haltPockets (p : PocketNo) (s : State) : (haltPockets s).pockets[p] = haltPocket s.pockets[p] := by
  unfold haltPockets
  simp only [Fin.getElem_fin, Vector.getElem_ofFn]

theorem getElem_haltStrokes (p : PocketNo) (s : State) : (haltStrokes s).crimp[p] = haltCrimp s.crimp[p] := by
  unfold haltStrokes
  simp only [Fin.getElem_fin, Vector.getElem_ofFn]

theorem haltGas_crimp_heads (s : State) : (haltGas s).crimp = s.crimp ∧ (haltGas s).heads = s.heads := by
  rw [haltGas_eq]
  generalize List.finRange 4 = l
  rw [closes_elsewhere, waitingDropped_eq]
  exact ⟨rfl, rfl⟩

theorem headView_haltStrokes (p : PocketNo) (s : State) :
    headView p (haltStrokes s) = (s.pockets[p], haltCrimp s.crimp[p], s.heads[p]) := by
  obtain ⟨pockets, heads⟩ := haltStrokes_pockets_heads s
  unfold headView
  rw [getElem_haltStrokes, pockets, heads]

/-- What HALT entry leaves at pocket p: halted, its waiting or its charge ended, its calibration revolution interrupted. -/
theorem headView_haltBlocks (p : PocketNo) (s : State) :
    headView p (haltBlocks s)
      = interruptedView ((haltGas (haltPockets s)).pockets[p], haltCrimp s.crimp[p], s.heads[p]) := by
  obtain ⟨crimp, heads⟩ := haltGas_crimp_heads (haltPockets s)
  obtain ⟨-, crimp_before, heads_before⟩ := haltPockets_gas_crimp_heads s
  unfold haltBlocks
  rw [headView_forHeads_interruptCalibration, headView_haltStrokes, crimp, heads, crimp_before, heads_before]

theorem haltPocket_step (k : Pocket) : (haltPocket k).step = k.step := by
  unfold haltPocket
  split <;> rfl

theorem haltCrimp_eq (k : CrimpHead) :
    haltCrimp k = { k with stroke := k.stroke.filter fun st => st.kind = .calibration } := by
  obtain ⟨lowered, closed, stroke, watch⟩ := k
  rcases stroke with _ | ⟨kind, mode, time, condition, timer, capture⟩
  · rfl
  · cases kind <;> rfl

end Sys2Proof.Machine
end

section
/-! PROOF. R40, R42, R53, R78, R148, R159 to R161: a halt cause in each line state. -/

namespace Sys2Proof.Machine

variable {s t : State} {p : PocketNo} {c : ChannelNo} {cause : HaltCause}

/-! ### The hand-offs of a change of line state, one by one (R153) -/

theorem endEpisode_overspeedOpen (s : State) : (endEpisode s).position.overspeedOpen = false := by
  unfold endEpisode
  split
  case isTrue => rw [sendReport_position]
  case isFalse shut => exact Bool.eq_false_iff.mpr shut

theorem handOffLine_overspeedOpen (before after : LineState) (s : State) :
    (handOffLine before after s).position.overspeedOpen
      = if runOrDrain before ∧ ¬ runOrDrain after then false else s.position.overspeedOpen := by
  unfold handOffLine
  dsimp only
  split <;> split
  · rw [failChangeover_eq, endEpisode_overspeedOpen]
  · rw [failChangeover_eq]
    split <;> rfl
  · rw [endEpisode_overspeedOpen]
  · split <;> rfl

theorem handOffLine_infeedGate (before after : LineState) (s : State) :
    (handOffLine before after s).infeedGate = if before = .run ∧ after ≠ .run then false else s.infeedGate := by
  have gated : (if before = .run ∧ after ≠ .run then { s with infeedGate := false } else s).infeedGate
      = if before = .run ∧ after ≠ .run then false else s.infeedGate := by
    split <;> rfl
  unfold handOffLine
  dsimp only
  split <;> split
  · rw [failChangeover_eq, endEpisode_eq]
    exact gated
  · rw [failChangeover_eq]
    exact gated
  · rw [endEpisode_eq]
    exact gated
  · exact gated

/-- Leaving RUN or STARTING for a state that is neither fails an ARMED changeover. -/
theorem handOffLine_lots_of_armed {before after : LineState} {plan : ChangePlan} {n : Nat} {counted : Vector Bool 24}
    (armed : s.lots.changeover = .armed plan n counted) (from_run : before = .run ∨ before = .starting)
    (leaves_run : after ≠ .run) (leaves_starting : after ≠ .starting) :
    (handOffLine before after s).lots
      = { s.lots with changeover := .none, lastOutcome := some (.failed .lineStop) } := by
  have told : (if runOrDrain before = true ∧ ¬runOrDrain after = true
      then endEpisode (if before = .run ∧ after ≠ .run then { s with infeedGate := false } else s)
      else (if before = .run ∧ after ≠ .run then { s with infeedGate := false } else s)).lots = s.lots := by
    split <;> (try rw [endEpisode_lots]) <;> split <;> rfl
  unfold handOffLine
  dsimp only
  rw [if_pos ⟨from_run, leaves_run, leaves_starting⟩, failChangeover_of_armed (told.symm ▸ armed), sendReport_lots, told]

/-! ### HALT and the way on to STOPPED -/

/-- From HALT the line goes on to STOPPED with no hand-off but its report. -/
theorem checkStandstill_elsewhere (halt : s.line.state = .halt) :
    let t := checkStandstill s
    t = { s with position := { s.position with stallTimer := t.position.stallTimer }, line := t.line, link := t.link } := by
  unfold checkStandstill
  dsimp only
  split
  · unfold changeLine
    dsimp only [id_eq]
    rw [halt, sendReport_eq]
    rfl
  · rfl

theorem checkStandstill_line (halt : s.line.state = .halt) :
    (checkStandstill s).line = if s.position.standstill then (setLine .stopped none s).line else s.line := by
  unfold checkStandstill
  by_cases still : s.position.standstill = true
  · rw [if_pos ⟨halt, still⟩, if_pos still, changeLine_id_line]
  · rw [if_neg (fun both => still both.2), if_neg still]

theorem checkStandstill_stallTimer (stopped : s.position.stallTimer = none) (halt : s.line.state = .halt) :
    (checkStandstill s).position.stallTimer = none := by
  unfold checkStandstill
  split
  · unfold changeLine
    dsimp only [id_eq]
    rw [halt, sendReport_position]
    rfl
  · exact stopped

/-- The blocks told of HALT, before the hand-offs of the line. -/
def haltTold (cause : HaltCause) (s : State) : State := haltBlocks (haltRecorded cause s)

theorem haltTold_blocksOnly (cause : HaltCause) (s : State) : BlocksOnly (haltRecorded cause s) (haltTold cause s) :=
  haltBlocks_blocksOnly _

theorem BlocksOnly.rest (h : BlocksOnly s t) :
    t.position = s.position ∧ t.trail = s.trail ∧ t.lots = s.lots ∧ t.line = s.line ∧ t.infeedGate = s.infeedGate := by
  rw [h]
  exact ⟨rfl, rfl, rfl, rfl, rfl⟩

theorem handOffLine_rest (before after : LineState) (s : State) :
    let t := handOffLine before after s
    t.pockets = s.pockets ∧ t.gas = s.gas ∧ t.crimp = s.crimp ∧ t.heads = s.heads ∧ t.trail = s.trail ∧ t.line = s.line
      ∧ t.position.stallTimer = s.position.stallTimer ∧ t.position.standstill = s.position.standstill := by
  dsimp only
  rw [handOffLine_eq]
  exact ⟨rfl, rfl, rfl, rfl, rfl, rfl, rfl, rfl⟩

theorem checkStandstill_rest (halt : s.line.state = .halt) :
    let t := checkStandstill s
    t.pockets = s.pockets ∧ t.gas = s.gas ∧ t.crimp = s.crimp ∧ t.heads = s.heads ∧ t.trail = s.trail ∧ t.lots = s.lots
      ∧ t.infeedGate = s.infeedGate ∧ t.position.overspeedOpen = s.position.overspeedOpen := by
  dsimp only
  rw [checkStandstill_elsewhere halt]
  exact ⟨rfl, rfl, rfl, rfl, rfl, rfl, rfl, rfl⟩

/-- HALT entry up to its two reports. -/
def haltHandedOff (cause : HaltCause) (s : State) : State := handOffLine s.line.state .halt (haltTold cause s)

theorem haltEntered_eq (cause : HaltCause) (s : State) :
    haltEntered cause s = { haltHandedOff cause s with link := (haltEntered cause s).link } := by
  unfold haltEntered
  rw [sendReport_eq, sendReport_eq]
  rfl

theorem haltEntered_halt (cause : HaltCause) (s : State) : (haltEntered cause s).line.state = .halt :=
  (haltEntered_line_lots cause s).1

/-- What HALT entry leaves is what its hand-offs left, but for the way on to STOPPED. -/
theorem enterHalt_rest (cause : HaltCause) (s : State) :
    let t := enterHalt cause s
    let u := haltHandedOff cause s
    t.pockets = u.pockets ∧ t.gas = u.gas ∧ t.crimp = u.crimp ∧ t.heads = u.heads ∧ t.trail = u.trail ∧ t.lots = u.lots
      ∧ t.infeedGate = u.infeedGate ∧ t.position.overspeedOpen = u.position.overspeedOpen := by
  have rest := checkStandstill_rest (haltEntered_halt cause s)
  dsimp only at rest ⊢
  rw [enterHalt_eq]
  rw [haltEntered_eq] at rest ⊢
  exact rest

/-- Pockets, gas, strokes, heads and trail after HALT entry are as the blocks left them. -/
theorem enterHalt_tables (cause : HaltCause) (s : State) :
    let t := enterHalt cause s
    let u := haltTold cause s
    t.pockets = u.pockets ∧ t.gas = u.gas ∧ t.crimp = u.crimp ∧ t.heads = u.heads ∧ t.trail = s.trail := by
  obtain ⟨pockets, gas, crimp, heads, trail, -⟩ := enterHalt_rest cause s
  obtain ⟨pockets', gas', crimp', heads', trail', -⟩ := handOffLine_rest s.line.state .halt (haltTold cause s)
  exact ⟨pockets.trans pockets', gas.trans gas', crimp.trans crimp', heads.trans heads',
    (trail.trans trail').trans (haltTold_blocksOnly cause s).rest.2.1⟩

theorem haltHandedOff_line (cause : HaltCause) (s : State) : (haltHandedOff cause s).line = (haltRecorded cause s).line :=
  (handOffLine_rest _ _ _).2.2.2.2.2.1.trans (haltTold_blocksOnly cause s).rest.2.2.2.1

theorem haltHandedOff_position (cause : HaltCause) (s : State) :
    let pc := (haltHandedOff cause s).position
    pc.stallTimer = none ∧ pc.standstill = s.position.standstill
      ∧ pc.overspeedOpen = if runOrDrain s.line.state then false else s.position.overspeedOpen := by
  have position : (haltTold cause s).position = (haltRecorded cause s).position := (haltTold_blocksOnly cause s).rest.1
  obtain ⟨-, -, -, -, -, -, stall, standstill⟩ := handOffLine_rest s.line.state .halt (haltTold cause s)
  have leaves : (runOrDrain s.line.state = true ∧ ¬ runOrDrain .halt = true) ↔ runOrDrain s.line.state = true :=
    and_iff_left (by decide)
  refine ⟨stall.trans ?_, standstill.trans ?_, (handOffLine_overspeedOpen _ _ _).trans ?_⟩
  · rw [position]
    rfl
  · rw [position]
    rfl
  · rw [position]
    exact if_congr leaves rfl rfl

/-- The line that HALT entry leaves: halted, or stopped where it already stood still, with the record written. -/
theorem enterHalt_line (cause : HaltCause) (s : State) :
    let t := enterHalt cause s
    t.line.state = (if s.position.standstill then .stopped else .halt) ∧ t.line.runPermit = false
      ∧ t.line.drainCause = none ∧ t.line.syncTimer = none
      ∧ t.line.haltRecord = some (newHaltRecord cause s.line.state s) := by
  have line : (haltEntered cause s).line = (haltRecorded cause s).line := by
    rw [haltEntered_eq]
    exact haltHandedOff_line cause s
  have standstill : (haltEntered cause s).position.standstill = s.position.standstill := by
    rw [haltEntered_eq]
    exact (haltHandedOff_position cause s).2.1
  dsimp only
  rw [enterHalt_eq, checkStandstill_line (haltEntered_halt cause s), standstill]
  split
  · refine ⟨rfl, rfl, rfl, rfl, ?_⟩
    change (haltEntered cause s).line.haltRecord = _
    rw [line]
    rfl
  · rw [line]
    exact ⟨rfl, rfl, rfl, rfl, rfl⟩

theorem enterHalt_stallTimer (cause : HaltCause) (s : State) : (enterHalt cause s).position.stallTimer = none := by
  have stall : (haltEntered cause s).position.stallTimer = none := by
    rw [haltEntered_eq]
    exact (haltHandedOff_position cause s).1
  rw [enterHalt_eq]
  exact checkStandstill_stallTimer stall (haltEntered_halt cause s)

theorem enterHalt_overspeedOpen (cause : HaltCause) (s : State) :
    (enterHalt cause s).position.overspeedOpen = if runOrDrain s.line.state then false else s.position.overspeedOpen := by
  obtain ⟨-, -, -, -, -, -, -, episode⟩ := enterHalt_rest cause s
  exact episode.trans (haltHandedOff_position cause s).2.2

theorem enterHalt_infeedGate (run : s.line.state = .run) : (enterHalt cause s).infeedGate = false := by
  obtain ⟨-, -, -, -, -, -, gate, -⟩ := enterHalt_rest cause s
  exact gate.trans ((handOffLine_infeedGate _ _ _).trans (if_pos ⟨run, by decide⟩))

theorem enterHalt_lots_of_armed {plan : ChangePlan} {n : Nat} {counted : Vector Bool 24}
    (armed : s.lots.changeover = .armed plan n counted) (from_run : s.line.state = .run ∨ s.line.state = .starting) :
    (enterHalt cause s).lots = { s.lots with changeover := .none, lastOutcome := some (.failed .lineStop) } := by
  obtain ⟨-, -, -, -, -, lots, -⟩ := enterHalt_rest cause s
  have told : (haltTold cause s).lots = s.lots := (haltTold_blocksOnly cause s).rest.2.2.1
  refine lots.trans ((handOffLine_lots_of_armed (by rw [told]; exact armed) from_run (by decide) (by decide)).trans ?_)
  rw [told]

theorem enterHalt_lots_of_not_armed (bare : ∀ plan n counted, s.lots.changeover ≠ .armed plan n counted) :
    (enterHalt cause s).lots = s.lots := by
  obtain ⟨-, -, -, -, -, lots, -⟩ := enterHalt_rest cause s
  have told : (haltTold cause s).lots = s.lots := (haltTold_blocksOnly cause s).rest.2.2.1
  refine lots.trans ((handOffLine_lots_of_not_armed (by rw [told]; exact bare)).trans told)

/-! ### One pocket (R40, R42, R53) -/

/-- A pocket after HALT entry, with the reasons that its missed charge adds and the step it is left in. -/
def haltMarked (late : List Reason) (step : PocketStep) (k : Pocket) : Pocket :=
  { k with
    seatWatch := false, step := step,
    halted := match k.content with
      | .can _ => true
      | _ => k.halted || decide (k.step = .offered),
    content := match k.content with
      | .can r => .can { r with reasons := addReasons r.reasons ((if k.halted then [] else [.halted]) ++ late) }
      | other => other }

theorem haltPocket_eq (k : Pocket) : haltPocket k = haltMarked [] k.step k := by
  obtain ⟨content, step, binding, halted, watch⟩ := k
  cases content <;> cases halted <;> rfl

theorem missedPocket_haltPocket (k : Pocket) : missedPocket (haltPocket k) = haltMarked [.chargeMissed] .charged k := by
  obtain ⟨content, step, binding, halted, watch⟩ := k
  cases content <;> cases halted <;> rfl

theorem interruptedView_of_pass {k : Pocket} {j : CrimpHead} {h : Head} (pass : k.step = .calPass) :
    interruptedView (k, j, h) = ({ k with step := .idle }, { j with jawClosed := false, stroke := none },
      if h.state = .reseating then { h with state := .reseatPending } else h) := if_pos pass

theorem interruptedView_of_other {k : Pocket} {j : CrimpHead} {h : Head} (other : k.step ≠ .calPass) :
    interruptedView (k, j, h) = (k, j, h) := if_neg other

section AtPocket

/-- What the arbiter sees of the pockets and channels when HALT is handed to it. -/
theorem haltPockets_haltRecorded (cause : HaltCause) (s : State) :
    (haltPockets (haltRecorded cause s)).gas = s.gas
      ∧ (haltPockets (haltRecorded cause s)).pockets[p] = haltPocket s.pockets[p] :=
  ⟨(haltPockets_gas_crimp_heads _).1, getElem_haltPockets p _⟩

theorem headView_haltTold (p : PocketNo) (cause : HaltCause) (s : State) :
    headView p (haltTold cause s)
      = interruptedView ((haltGas (haltPockets (haltRecorded cause s))).pockets[p], haltCrimp s.crimp[p], s.heads[p]) :=
  headView_haltBlocks p _

theorem haltTold_gas (cause : HaltCause) (s : State) :
    (haltTold cause s).gas = (haltGas (haltPockets (haltRecorded cause s))).gas := haltBlocks_gas _

theorem haltedGas_pocket_of_missed (waits : s.pockets[p].step = .waitCharge) (listed : p ∈ s.gas.waiting) :
    (haltGas (haltPockets (haltRecorded cause s))).pockets[p] = haltMarked [.chargeMissed] .charged s.pockets[p] := by
  obtain ⟨gas, pocket⟩ := haltPockets_haltRecorded (p := p) cause s
  rw [haltGas_pocket_of_missed (by rw [pocket, haltPocket_step, waits]) (by rw [gas]; exact listed), pocket,
    missedPocket_haltPocket]

theorem haltedGas_pocket_of_charging (charges : s.pockets[p].step = .charging)
    (by_channel : ∃ c : ChannelNo, ChargesFor p s.gas.channels[c]) :
    (haltGas (haltPockets (haltRecorded cause s))).pockets[p] = haltMarked [] .charged s.pockets[p] := by
  obtain ⟨gas, pocket⟩ := haltPockets_haltRecorded (p := p) cause s
  obtain ⟨c, for_pocket⟩ := by_channel
  rw [haltGas_pocket_of_charging (by rw [pocket, haltPocket_step, charges])
    ⟨c, List.mem_finRange c, by rw [gas]; exact for_pocket⟩, pocket, haltPocket_eq]
  rfl

theorem haltedGas_pocket_of_other (not_missed : ¬ (s.pockets[p].step = .waitCharge ∧ p ∈ s.gas.waiting))
    (not_closed : ¬ (s.pockets[p].step = .charging ∧ ∃ c : ChannelNo, ChargesFor p s.gas.channels[c])) :
    (haltGas (haltPockets (haltRecorded cause s))).pockets[p] = haltMarked [] s.pockets[p].step s.pockets[p] := by
  obtain ⟨gas, pocket⟩ := haltPockets_haltRecorded (p := p) cause s
  rw [haltGas_pocket_of_other, pocket, haltPocket_eq]
  · rwa [pocket, haltPocket_step, gas]
  · rw [pocket, haltPocket_step]
    rintro ⟨charges, c, -, for_pocket⟩
    exact not_closed ⟨charges, c, by rw [gas] at for_pocket; exact for_pocket⟩

/-- HALT entry at a pocket in calibration: IDLE, its jaw open and its stroke discarded. -/
theorem headView_haltTold_of_pass (pass : s.pockets[p].step = .calPass) :
    headView p (haltTold cause s)
      = (haltMarked [] .idle s.pockets[p], { s.crimp[p] with jawClosed := false, stroke := none },
          if s.heads[p].state = .reseating then { s.heads[p] with state := .reseatPending } else s.heads[p]) := by
  have left : (haltGas (haltPockets (haltRecorded cause s))).pockets[p] = haltMarked [] s.pockets[p].step s.pockets[p] :=
    haltedGas_pocket_of_other (fun both => absurd (pass.symm.trans both.1) (by decide))
      (fun both => absurd (pass.symm.trans both.1) (by decide))
  rw [headView_haltTold, left, interruptedView_of_pass (k := haltMarked [] s.pockets[p].step s.pockets[p]) pass,
    haltCrimp_eq]
  rfl

/-- HALT entry at any other pocket leaves its head, and its stroke where that is a calibration's. -/
theorem headView_haltTold_of_other {k : Pocket}
    (left : (haltGas (haltPockets (haltRecorded cause s))).pockets[p] = k) (other : k.step ≠ .calPass) :
    headView p (haltTold cause s)
      = (k, { s.crimp[p] with stroke := s.crimp[p].stroke.filter fun st => st.kind = .calibration }, s.heads[p]) := by
  rw [headView_haltTold, left, interruptedView_of_other other, haltCrimp_eq]

end AtPocket

/-! ### In HALT and STOPPED -/

theorem takeHaltCause_of_stopped (stopped : s.line.state = .stopped) : takeHaltCause cause s = s := by
  unfold takeHaltCause
  rw [stopped]

theorem takeHaltCause_of_halt {r : HaltRecord} (halt : s.line.state = .halt) (record : s.line.haltRecord = some r) :
    takeHaltCause cause s = { s with line := { s.line with
      haltRecord := some (if r.first = cause then r else { r with later := r.later ||| haltBit cause }) } } := by
  unfold takeHaltCause
  rw [halt]
  dsimp only [joinLaterCauses]
  rw [record]
  rfl

/-! ### Every table after a halt cause with the run permit on -/

section Permit

variable (permit : permitIn s.line.state = true)
include permit

theorem takeHaltCause_gas : (takeHaltCause cause s).gas = (haltGas (haltPockets (haltRecorded cause s))).gas := by
  rw [takeHaltCause_of_permit permit]
  exact (enterHalt_tables cause s).2.1.trans (haltTold_gas cause s)

theorem headView_takeHaltCause (p : PocketNo) :
    headView p (takeHaltCause cause s) = headView p (haltTold cause s) := by
  obtain ⟨pockets, -, crimp, heads, -⟩ := enterHalt_tables cause s
  rw [takeHaltCause_of_permit permit]
  unfold headView
  rw [pockets, crimp, heads]

/-- A pocket that is not in calibration, as HALT entry leaves it. -/
theorem pocket_takeHaltCause {k : Pocket} (left : (haltGas (haltPockets (haltRecorded cause s))).pockets[p] = k)
    (other : k.step ≠ .calPass) : (takeHaltCause cause s).pockets[p] = k :=
  congrArg Prod.fst ((headView_takeHaltCause permit p).trans (headView_haltTold_of_other left other))

theorem getElem_takeHaltCause_channel (c : ChannelNo) :
    (takeHaltCause cause s).gas.channels[c]
      = if s.gas.channels[c].state = .charging then closedChannel .halt s.gas.channels[c] else s.gas.channels[c] := by
  have gas := (haltPockets_haltRecorded (p := 0) cause s).1
  rw [takeHaltCause_gas permit, getElem_haltGas_channel, gas]

theorem headView_takeHaltCause_of_not_pass (other : s.pockets[p].step ≠ .calPass) :
    (takeHaltCause cause s).crimp[p]
        = { s.crimp[p] with stroke := s.crimp[p].stroke.filter fun st => st.kind = .calibration }
      ∧ (takeHaltCause cause s).heads[p] = s.heads[p] := by
  have seen {k : Pocket} (left : (haltGas (haltPockets (haltRecorded cause s))).pockets[p] = k) (ne : k.step ≠ .calPass) :=
    (headView_takeHaltCause (cause := cause) permit p).trans (headView_haltTold_of_other left ne)
  have apart {k : Pocket} {j : CrimpHead} {h : Head} (view : headView p (takeHaltCause cause s) = (k, j, h)) :
      (takeHaltCause cause s).crimp[p] = j ∧ (takeHaltCause cause s).heads[p] = h :=
    ⟨congrArg (fun v => v.2.1) view, congrArg (fun v => v.2.2) view⟩
  by_cases missed : s.pockets[p].step = .waitCharge ∧ p ∈ s.gas.waiting
  · exact apart (seen (haltedGas_pocket_of_missed missed.1 missed.2) nofun)
  · by_cases closed : s.pockets[p].step = .charging ∧ ∃ c : ChannelNo, ChargesFor p s.gas.channels[c]
    · exact apart (seen (haltedGas_pocket_of_charging closed.1 closed.2) nofun)
    · exact apart (seen (haltedGas_pocket_of_other missed closed) other)

end Permit

/-- Settles O14: with the run permit on, the blocks are told of HALT one after the other, and each table is read off the block
that writes it last; without it only the later causes can change. -/
theorem haltCauseEntersHaltOrJoinsTheRecord : Obligations.HaltCauseEntersHaltOrJoinsTheRecord := by
  unfold Obligations.HaltCauseEntersHaltOrJoinsTheRecord
  refine ⟨fun cause s permit => ?permit, fun cause s => ⟨takeHaltCause_of_stopped, fun r halt record same => ?same,
    fun r halt record other => ?later⟩⟩
  case same =>
    rw [takeHaltCause_of_halt halt record, if_pos same, ← record]
  case later =>
    rw [takeHaltCause_of_halt halt record, if_neg other]
    rfl
  case permit =>
    intro t
    have enters : t = enterHalt cause s := takeHaltCause_of_permit permit
    obtain ⟨state, runPermit, drainCause, syncTimer, record⟩ := enterHalt_line cause s
    refine ⟨by rw [enters, state], by rw [enters, runPermit], by rw [enters, drainCause], by rw [enters, syncTimer],
      by rw [enters, record]; rfl, ?waiting, ?trail, by rw [enters, enterHalt_stallTimer], ?episode, fun run => ?gate,
      fun c => ⟨fun resting => ?resting, fun charging => ⟨?closed, fun g granted => ?selector⟩⟩, fun p => ?pocket,
      fun p => ?head, fun plan n counted armed not_drain => ?armed, fun bare => ?bare⟩
    case waiting => rw [takeHaltCause_gas permit, haltGas_waiting]
    case trail => rw [enters, (enterHalt_tables cause s).2.2.2.2]
    case episode =>
      rw [enters, enterHalt_overspeedOpen]
      cases state : s.line.state with
      | starting | run | drain => rfl
      | stopped | halt => simp [state, permitIn] at permit
    case gate => rw [enters, enterHalt_infeedGate run]
    case resting => rw [getElem_takeHaltCause_channel permit, if_neg resting]
    case closed =>
      rw [getElem_takeHaltCause_channel permit, if_pos charging]
      rfl
    case selector =>
      have gas := (haltPockets_haltRecorded (p := 0) cause s).1
      rw [takeHaltCause_gas permit]
      exact haltGas_selector (by rw [gas]; exact charging) (by rw [gas]; exact granted)
    case pocket =>
      intro k missed closed marks late
      by_cases is_missed : missed
      · rw [pocket_takeHaltCause permit (haltedGas_pocket_of_missed is_missed.1 is_missed.2) nofun]
        rw [if_pos (Or.inl is_missed), show late = [.chargeMissed] from if_pos is_missed]
        rfl
      · have not_late : late = [] := if_neg is_missed
        by_cases is_closed : closed
        · rw [pocket_takeHaltCause permit (haltedGas_pocket_of_charging is_closed.1 is_closed.2) nofun]
          rw [if_pos (Or.inr is_closed), not_late]
          rfl
        · have neither : ¬ (missed ∨ closed) := not_or.mpr ⟨is_missed, is_closed⟩
          rw [if_neg neither, not_late]
          by_cases pass : k.step = .calPass
          · rw [if_pos pass]
            exact congrArg Prod.fst ((headView_takeHaltCause permit p).trans (headView_haltTold_of_pass pass))
          · rw [if_neg pass]
            exact pocket_takeHaltCause permit (haltedGas_pocket_of_other is_missed is_closed) pass
    case head =>
      intro pass
      by_cases in_pass : pass
      · have view := (headView_takeHaltCause (cause := cause) permit p).trans (headView_haltTold_of_pass in_pass)
        rw [if_pos in_pass, if_pos in_pass, if_congr (and_iff_right in_pass) rfl rfl]
        exact ⟨congrArg (fun v => v.2.1) view, congrArg (fun v => v.2.2) view⟩
      · rw [if_neg in_pass, if_neg in_pass, if_neg fun both => in_pass both.1]
        exact headView_takeHaltCause_of_not_pass permit in_pass
    case armed =>
      have from_run : s.line.state = .run ∨ s.line.state = .starting := by
        cases state : s.line.state with
        | run => exact .inl rfl
        | starting => exact .inr rfl
        | drain => exact absurd state not_drain
        | stopped | halt => simp [state, permitIn] at permit
      rw [enters, enterHalt_lots_of_armed armed from_run]
    case bare => rw [enters, enterHalt_lots_of_not_armed bare]

end Sys2Proof.Machine
end

section
/-! PROOF. R5, R6: what a loss of position takes, and a position fault. R13: a pitch judged against the ceiling. -/

namespace Sys2Proof.Machine

variable {s t u : State} {p q : PocketNo} {l m : List PocketNo} {cause : HaltCause}

/-! ### The pockets, one after the other (R6) -/

/-- A loss of position that has come as far as the pockets of a list: those are lost, every other pocket carries on, as far as
its loss tells, and beyond pockets only counts, grants and heads move. -/
structure Loss (l : List PocketNo) (s t : State) : Prop where
  elsewhere : t = { s with
    position := { s.position with speedCeiling := t.position.speedCeiling },
    gas := t.gas, pockets := t.pockets, heads := t.heads, lots := t.lots, link := t.link, freeIx := t.freeIx }
  carries : ∀ p : PocketNo, lostPocket t.pockets[p] = lostPocket s.pockets[p]
  lost : ∀ p : PocketNo, p ∈ l ∨ s.pockets[p] = lostPocket s.pockets[p] → t.pockets[p] = lostPocket s.pockets[p]
  waiting : s.gas.waiting = [] → t.gas.waiting = []

theorem Loss.refl (s : State) : Loss [] s s :=
  ⟨rfl, fun _ => rfl, fun _ lost => lost.resolve_left List.not_mem_nil, id⟩

theorem Loss.trans (h : Loss l s t) (k : Loss m t u) : Loss (l ++ m) s u := by
  refine ⟨?_, fun p => (k.carries p).trans (h.carries p), fun p lost => ?_, fun empty => k.waiting (h.waiting empty)⟩
  · rw [k.elsewhere, h.elsewhere]
  · refine (k.lost p ?_).trans (h.carries p)
    rw [List.mem_append, or_assoc, or_left_comm] at lost
    refine lost.imp_right fun before => ?_
    rw [h.carries p]
    exact h.lost p before

theorem Counted.loss (h : Counted s t) : Loss [] s t := by
  refine ⟨?_, h.lost, fun p lost => ?_, fun empty => (h.resting empty).1⟩
  · rw [h.elsewhere]
  · have same : s.pockets[p] = lostPocket s.pockets[p] := lost.resolve_left List.not_mem_nil
    refine (h.pocket p ?_).trans same
    rw [same]
    exact nofun

theorem interruptHead_loss (p : PocketNo) (s : State) : Loss [] s (interruptHead p s) := by
  rw [interruptHead_eq]
  exact ⟨rfl, fun _ => rfl, fun _ lost => lost.resolve_left List.not_mem_nil, id⟩

theorem lostPocket_lostPocket (k : Pocket) : lostPocket (lostPocket k) = lostPocket k := by
  unfold lostPocket
  cases content : k.content <;> rfl

theorem setPocket_lost_loss (p : PocketNo) (s : State) : Loss [p] s (setPocket p (lostPocket s.pockets[p]) s) := by
  refine ⟨rfl, fun q => ?_, fun q lost => ?_, id⟩
  · by_cases same : p = q
    · subst same
      rw [getElem_setPocket_self, lostPocket_lostPocket]
    · rw [getElem_setPocket_ne same]
  · by_cases same : p = q
    · subst same
      exact getElem_setPocket_self _ _ _
    · rw [getElem_setPocket_ne same]
      exact lost.resolve_left fun mem => same (List.mem_singleton.mp mem).symm

theorem lostPocket_of_can {k : Pocket} {r : CanRecord} (content : k.content = .can r) :
    lostPocket k = clearedPocket .unknown := by
  unfold lostPocket
  rw [content]

theorem lostPocket_of_no_can {k : Pocket} (empty : ∀ r, k.content ≠ .can r) : lostPocket k = clearedPocket k.content := by
  unfold lostPocket
  cases content : k.content with
  | can r => exact absurd content (empty r)
  | empty => rfl
  | unknown => rfl

/-- Behind a pocket that is lost, what it carried is counted or its calibration interrupted. -/
theorem losePocket_loss (p : PocketNo) (s : State) : Loss [p] s (losePocket p s) := by
  refine (setPocket_lost_loss p s).trans (m := []) ?_
  by_cases carried : ∃ r, s.pockets[p].content = .can r
  · obtain ⟨r, content⟩ := carried
    rw [lostPocket_of_can content]
    unfold losePocket
    dsimp only
    rw [content]
    exact (countLost_counted _ _).loss
  · rw [lostPocket_of_no_can (not_exists.mp carried)]
    unfold losePocket
    dsimp only
    split
    case h_1 r content => exact absurd ⟨r, content⟩ carried
    case h_2 =>
      split
      · exact ((leaveCounted_counted _ _ _).trans (countNoCan_counted _ _)).loss
      · exact interruptHead_loss _ _
      · exact Loss.refl _

theorem foldl_losePocket_loss (l : List PocketNo) (s : State) : Loss l s (l.foldl (fun s p => losePocket p s) s) := by
  induction l generalizing s with
  | nil => exact Loss.refl s
  | cons p l ih => exact (losePocket_loss p s).trans (ih _)

theorem forHeads_losePocket_loss (s : State) : Loss (List.finRange 24) s (forHeads losePocket s) := foldl_losePocket_loss _ s

/-! ### Crimp unit, trail and gate (R6, R109, R111) -/

theorem getElem_loseCrimp (p : PocketNo) (s : State) : (loseCrimp s).crimp[p] = CrimpHead.initial := by
  unfold loseCrimp
  simp only [Fin.getElem_fin, Vector.getElem_replicate]

/-- The cans of the trail are counted lost. -/
def trailCounted (entries : List TrailEntry) (s : State) : State :=
  entries.foldl (fun s e => match e.kind with
    | .real r => countLost r.lot s
    | .purge _ _ => s) s

theorem trailCounted_loss (entries : List TrailEntry) (s : State) : Loss [] s (trailCounted entries s) := by
  induction entries generalizing s with
  | nil => exact Loss.refl s
  | cons e entries ih =>
    have first : Loss [] s (match e.kind with
        | .real r => countLost r.lot s
        | .purge _ _ => s) := by
      cases e.kind with
      | real r => exact (countLost_counted _ _).loss
      | purge _ _ => exact Loss.refl s
    exact first.trans (ih _)

theorem loseTrail_eq (s : State) :
    loseTrail s = commandGate .hold none
      (trailCounted s.trail.entries { s with trail := { s.trail with entries := [], eyeLatch := false } }) := rfl

/-- No pitch is timed any more (R11). -/
def untimed (s : State) : State := { s with position := { s.position with pitchTime := none, lastBoundary := none } }

/-- Strokes lost and the waiting list empty, behind the pockets and before the trail. -/
def strokesLost (s : State) : State := { loseCrimp s with gas := { s.gas with waiting := [] } }

theorem losePosition_eq (s : State) : losePosition s = loseTrail (strokesLost (forHeads losePocket (untimed s))) := by
  dsimp only [losePosition, strokesLost, untimed]

theorem Loss.rest (h : Loss l s t) :
    t.line = s.line ∧ t.crimp = s.crimp ∧ t.trail = s.trail ∧ t.position.sync = s.position.sync
      ∧ t.position.stepCount = s.position.stepCount ∧ t.position.pitchTime = s.position.pitchTime := by
  rw [h.elsewhere]
  exact ⟨rfl, rfl, rfl, rfl, rfl, rfl⟩

theorem strokesLost_rest (s : State) :
    (strokesLost s).line = s.line ∧ (strokesLost s).position = s.position ∧ (strokesLost s).pockets = s.pockets
      ∧ (strokesLost s).gas.waiting = [] ∧ (strokesLost s).crimp = (loseCrimp s).crimp := by
  dsimp only [strokesLost, loseCrimp]
  exact ⟨rfl, rfl, rfl, rfl, rfl⟩

/-- What a loss of position leaves: no can in a known pocket, no stroke, no entry, and the gate at rest. -/
structure PositionLost (s t : State) : Prop where
  line : t.line = s.line
  sync : t.position.sync = s.position.sync
  stepCount : t.position.stepCount = s.position.stepCount
  pitchTime : t.position.pitchTime = none
  pocket : ∀ p : PocketNo, t.pockets[p] = lostPocket s.pockets[p]
  crimp : ∀ p : PocketNo, t.crimp[p] = CrimpHead.initial
  waiting : t.gas.waiting = []
  entries : t.trail.entries = []
  eyeLatch : t.trail.eyeLatch = false
  gate : t.trail.gateCommand = .hold

/-- The trail as a loss of position leaves it; the pockets stay lost. -/
theorem loseTrail_lost (clean : ∀ p : PocketNo, s.pockets[p] = lostPocket s.pockets[p])
    (bare : ∀ p : PocketNo, s.crimp[p] = CrimpHead.initial) (empty : s.gas.waiting = [])
    (untimed : s.position.pitchTime = none) : PositionLost s (loseTrail s) := by
  have counted := trailCounted_loss s.trail.entries { s with trail := { s.trail with entries := [], eyeLatch := false } }
  rw [loseTrail_eq]
  generalize trailCounted s.trail.entries { s with trail := { s.trail with entries := [], eyeLatch := false } } = t at counted
  obtain ⟨line, crimp, trail, sync, count, pitch⟩ := counted.rest
  exact ⟨line, sync, count, pitch.trans untimed, fun p => counted.lost p (.inr (clean p)),
    fun p => (congrArg (fun v : Vector CrimpHead 24 => v[p]) crimp).trans (bare p), counted.waiting empty,
    congrArg Trail.entries trail, congrArg Trail.eyeLatch trail, rfl⟩

theorem losePosition_lost (s : State) : PositionLost s (losePosition s) := by
  have before : Loss (List.finRange 24) (untimed s) (forHeads losePocket (untimed s)) := forHeads_losePocket_loss _
  rw [losePosition_eq]
  generalize forHeads losePocket (untimed s) = t at before
  obtain ⟨line, -, -, sync, count, pitch⟩ := before.rest
  obtain ⟨line', position', pockets', waiting', crimp'⟩ := strokesLost_rest t
  have pocket (p : PocketNo) : (strokesLost t).pockets[p] = lostPocket s.pockets[p] := by
    rw [pockets']
    exact before.lost p (.inl (List.mem_finRange p))
  have after : PositionLost (strokesLost t) (loseTrail (strokesLost t)) := by
    refine loseTrail_lost (fun p => ?_) (fun p => ?_) waiting' ?_
    · rw [pocket p, lostPocket_lostPocket]
    · rw [crimp', getElem_loseCrimp]
    · rw [position', pitch]
      rfl
  refine ⟨after.line.trans (line'.trans line), after.sync.trans ?_, after.stepCount.trans ?_, after.pitchTime, fun p => ?_,
    after.crimp, after.waiting, after.entries, after.eyeLatch, after.gate⟩
  · rw [position', sync]
    rfl
  · rw [position', count]
    rfl
  · rw [after.pocket p, pocket p, lostPocket_lostPocket]

/-! ### A halt cause keeps what a loss takes -/

theorem lostPocket_haltMarked (late : List Reason) (step : PocketStep) (k : Pocket) :
    lostPocket (haltMarked late step k) = lostPocket k := by
  obtain ⟨content, _, _, _, _⟩ := k
  cases content <;> rfl

theorem lostPocket_takeHaltCause (cause : HaltCause) (s : State) (p : PocketNo) :
    lostPocket (takeHaltCause cause s).pockets[p] = lostPocket s.pockets[p] := by
  cases permit : permitIn s.line.state
  · obtain ⟨record, joins⟩ := takeHaltCause_of_no_permit (cause := cause) permit
    rw [joins]
  · by_cases pass : s.pockets[p].step = .calPass
    · have pocket : (takeHaltCause cause s).pockets[p] = haltMarked [] .idle s.pockets[p] :=
        congrArg Prod.fst ((headView_takeHaltCause permit p).trans (headView_haltTold_of_pass pass))
      rw [pocket, lostPocket_haltMarked]
    · by_cases missed : s.pockets[p].step = .waitCharge ∧ p ∈ s.gas.waiting
      · rw [pocket_takeHaltCause permit (haltedGas_pocket_of_missed missed.1 missed.2) nofun, lostPocket_haltMarked]
      · by_cases closed : s.pockets[p].step = .charging ∧ ∃ c : ChannelNo, ChargesFor p s.gas.channels[c]
        · rw [pocket_takeHaltCause permit (haltedGas_pocket_of_charging closed.1 closed.2) nofun, lostPocket_haltMarked]
        · rw [pocket_takeHaltCause permit (haltedGas_pocket_of_other missed closed) pass, lostPocket_haltMarked]

theorem enterHalt_position (cause : HaltCause) (s : State) :
    let t := enterHalt cause s
    t.position.sync = s.position.sync ∧ t.position.stepCount = s.position.stepCount := by
  have told : (haltTold cause s).position = (haltRecorded cause s).position := (haltTold_blocksOnly cause s).rest.1
  have handed : (haltHandedOff cause s).position.sync = s.position.sync
      ∧ (haltHandedOff cause s).position.stepCount = s.position.stepCount := by
    unfold haltHandedOff
    rw [handOffLine_eq, told]
    exact ⟨rfl, rfl⟩
  have entered : (haltEntered cause s).position = (haltHandedOff cause s).position := by rw [haltEntered_eq]
  dsimp only
  rw [enterHalt_eq, checkStandstill_elsewhere (haltEntered_halt cause s), entered]
  exact handed

theorem takeHaltCause_position (cause : HaltCause) (s : State) :
    (takeHaltCause cause s).position.sync = s.position.sync
      ∧ (takeHaltCause cause s).position.stepCount = s.position.stepCount := by
  cases permit : permitIn s.line.state
  · obtain ⟨record, joins⟩ := takeHaltCause_of_no_permit (cause := cause) permit
    rw [joins]
    exact ⟨rfl, rfl⟩
  · rw [takeHaltCause_of_permit permit]
    exact enterHalt_position cause s

theorem takeHaltCause_lineState (cause : HaltCause) (s : State) :
    (takeHaltCause cause s).line.state
      = if permitIn s.line.state then (if s.position.standstill then .stopped else .halt) else s.line.state := by
  cases permit : permitIn s.line.state
  · obtain ⟨record, joins⟩ := takeHaltCause_of_no_permit (cause := cause) permit
    rw [joins, if_neg (by decide)]
  · rw [takeHaltCause_of_permit permit, (enterHalt_line cause s).1, if_pos rfl]

/-- The position FAULTED and reported, before the halt cause is taken (R5). -/
def faultReported (cause : HaltCause) (s : State) : State :=
  sendReport (.positionFault cause s.position.position s.position.stepCount)
    { s with position := { s.position with sync := .faulted, stepCount := 0 } }

theorem positionFault_eq (cause : HaltCause) (s : State) :
    positionFault cause s = losePosition (takeHaltCause cause (faultReported cause s)) := rfl

theorem faultReported_fields (cause : HaltCause) (s : State) :
    let t := faultReported cause s
    t.position = { s.position with sync := .faulted, stepCount := 0 } ∧ t.line = s.line ∧ t.pockets = s.pockets := by
  dsimp only [faultReported]
  rw [sendReport_eq]
  exact ⟨rfl, rfl, rfl⟩

/-- Settles O11: HALT keeps of every pocket what its loss tells, and the loss of position then takes it. -/
theorem positionFaultLosesEveryCan : Obligations.PositionFaultLosesEveryCan := by
  unfold Obligations.PositionFaultLosesEveryCan
  intro cause s t
  have lost := losePosition_lost (takeHaltCause cause (faultReported cause s))
  rw [← positionFault_eq] at lost
  obtain ⟨position, line, pockets⟩ := faultReported_fields cause s
  obtain ⟨sync, count⟩ := takeHaltCause_position cause (faultReported cause s)
  refine ⟨lost.sync.trans (sync.trans ?_), lost.stepCount.trans (count.trans ?_), lost.pitchTime, ?_, fun p => ?_,
    lost.crimp, lost.waiting, lost.entries, lost.eyeLatch, lost.gate⟩
  · rw [position]
  · rw [position]
  · refine (congrArg LineControl.state lost.line).trans ((takeHaltCause_lineState _ _).trans ?_)
    rw [line, position]
  · refine (lost.pocket p).trans ((lostPocket_takeHaltCause _ _ p).trans ?_)
    rw [pockets]

/-! ### Overspeed (R13) -/

theorem isOverspeed_iff (t ceiling : Nat) : isOverspeed t ceiling = true ↔ 20 * t < 19 * ceiling := by
  simp [isOverspeed]

theorem judgePitch_of_judged {pitch : Nat} (timed : s.position.pitchTime = some pitch)
    (judged : s.line.state = .run ∨ s.line.state = .drain) :
    judgePitch s = if isOverspeed pitch s.position.speedCeiling then overspeedPitch pitch s else normalPitch pitch s := by
  have in_force : runOrDrain s.line.state = true := by rcases judged with state | state <;> rw [state] <;> rfl
  unfold judgePitch
  rw [timed]
  exact if_pos in_force

theorem normalPitch_position (pitch : Nat) (s : State) :
    (normalPitch pitch s).position = { s.position with overspeedRun := 0, overspeedOpen := false } := by
  unfold normalPitch
  dsimp only
  split
  · rw [sendReport_position]
  · rfl

/-- The episode opened or gone on with, before its eighth pitch would halt the line. -/
def overspeedCounted (pitch : Nat) (s : State) : State :=
  let v : State := { s with position := { s.position with
    overspeedRun := saturatingSucc 8 s.position.overspeedRun, overspeedOpen := true } }
  if s.position.overspeedOpen then v else sendReport (.overspeedStart pitch v.position.speedCeiling) v

theorem overspeedPitch_eq (pitch : Nat) (s : State) :
    overspeedPitch pitch s = if s.position.overspeedRun = 7 then takeHaltCause .overspeedSustained (overspeedCounted pitch s)
      else overspeedCounted pitch s := rfl

theorem overspeedCounted_fields (pitch : Nat) (s : State) :
    let t := overspeedCounted pitch s
    t.position = { s.position with overspeedRun := saturatingSucc 8 s.position.overspeedRun, overspeedOpen := true }
      ∧ t.line = s.line := by
  unfold overspeedCounted
  dsimp only
  split
  · exact ⟨rfl, rfl⟩
  · rw [sendReport_eq]
    exact ⟨rfl, rfl⟩

/-- Settles O12: the eighth overspeed pitch halts a line in RUN or DRAIN, and so ends the episode it belongs to. -/
theorem pitchTimeIsJudgedAgainstTheCeiling : Obligations.PitchTimeIsJudgedAgainstTheCeiling := by
  unfold Obligations.PitchTimeIsJudgedAgainstTheCeiling
  intro pitch s timed judged
  obtain ⟨position, line⟩ := overspeedCounted_fields pitch s
  refine ⟨fun slow => ?normal, fun fast below => ?counts, fun fast last => ?halts⟩
  case normal =>
    rw [judgePitch_of_judged timed judged, if_neg fun fast => absurd ((isOverspeed_iff _ _).mp fast) (Nat.not_lt.mpr slow),
      normalPitch_position]
  case counts =>
    rw [judgePitch_of_judged timed judged, if_pos ((isOverspeed_iff _ _).mpr fast), overspeedPitch_eq,
      if_neg (Nat.ne_of_lt below)]
    refine ⟨position.trans ?_, line⟩
    rw [show saturatingSucc 8 s.position.overspeedRun = s.position.overspeedRun + 1 from if_pos (by omega)]
  case halts =>
    have state : (overspeedCounted pitch s).line.state = s.line.state := congrArg LineControl.state line
    have permit : permitIn (overspeedCounted pitch s).line.state = true := by
      rw [state]
      rcases judged with run | drain
      · rw [run]; rfl
      · rw [drain]; rfl
    rw [judgePitch_of_judged timed judged, if_pos ((isOverspeed_iff _ _).mpr fast), overspeedPitch_eq, if_pos last,
      takeHaltCause_of_permit permit, (enterHalt_line _ _).1, enterHalt_overspeedOpen, position, state]
    refine ⟨rfl, if_pos ?_⟩
    rcases judged with run | drain
    · rw [run]; rfl
    · rw [drain]; rfl

end Sys2Proof.Machine
end

section
/-! PROOF. R7, R163, R165, R169, R184: RESYNC, CLEAR_INTERLOCK, CLEAR_SAFE and RESTART. -/

namespace Sys2Proof.Machine

section LineControl

variable {s t : State} {p : PocketNo} {tag : Byte}

/-! ### The owners -/

theorem exec_resync (free : freePort .line s = true) :
    let f : Frame := { kind := 0x05, tag := tag, body := [] }
    let handled := ownResync (atOwner .line f s)
    exec (.resync .line tag) s = answered .line f handled.2 handled.1 :=
  receiveFrame_of_carried (f := { kind := 0x05, tag := tag, body := [] }) rfl (.inl rfl) free

theorem exec_clearInterlock (free : freePort .line s = true) :
    let f : Frame := { kind := 0x06, tag := tag, body := [] }
    let handled := ownClearInterlock (atOwner .line f s)
    exec (.clearInterlock .line tag) s = answered .line f handled.2 handled.1 :=
  receiveFrame_of_carried (f := { kind := 0x06, tag := tag, body := [] }) rfl (.inl rfl) free

theorem exec_clearSafe (free : freePort .line s = true) :
    let f : Frame := { kind := 0x07, tag := tag, body := [] }
    let handled := ownClearSafe (atOwner .line f s)
    exec (.clearSafe .line tag) s = answered .line f handled.2 handled.1 :=
  receiveFrame_of_carried (f := { kind := 0x07, tag := tag, body := [] }) rfl (.inl rfl) free

theorem exec_restart (free : freePort .line s = true) :
    let f : Frame := { kind := 0x0A, tag := tag, body := [] }
    let handled := ownRestart (atOwner .line f s)
    exec (.restart .line tag) s = answered .line f handled.2 handled.1 :=
  receiveFrame_of_carried (f := { kind := 0x0A, tag := tag, body := [] }) rfl (.inl rfl) free

theorem ownResync_of_moving (moving : s.line.state ≠ .stopped) : ownResync s = refuse .wrongState 0 s := if_pos moving

theorem ownResync_of_stopped (stopped : s.line.state = .stopped) :
    ownResync s = accept (fun s => [n8 (codeSync s.position.sync)]) (resyncPosition s) := if_neg (not_not.mpr stopped)

/-- The position that RESYNC leaves UNSYNCED, before what a loss of position takes with it (R7). -/
def unsyncedState (s : State) : State :=
  { s with position := { s.position with sync := .unsynced, stepCount := 0, pitchTime := none, lastBoundary := none } }

theorem resyncPosition_of_synced (synced : s.position.sync = .synced) :
    resyncPosition s = losePosition (unsyncedState s) := if_pos synced

theorem resyncPosition_of_not_synced (other : s.position.sync ≠ .synced) : resyncPosition s = unsyncedState s :=
  if_neg other

theorem ownClearInterlock_of_active (active : s.inputs.guardDoor = true ∨ s.inputs.leak = true) :
    ownClearInterlock s = refuse .inputActive 0 s := if_pos (Bool.or_eq_true _ _ |>.mpr active)

theorem ownClearInterlock_of_clear (guard : s.inputs.guardDoor = false) (leak : s.inputs.leak = false) :
    ownClearInterlock s = ({ s with line := { s.line with latch := none } }, .accepted [0, 0]) := by
  have clear : ¬ (s.inputs.guardDoor || s.inputs.leak) = true := by rw [guard, leak]; decide
  refine (if_neg clear).trans ?_
  have inputs : (bits8 [s.inputs.guardDoor, s.inputs.leak]) = 0 := by rw [guard, leak]; rfl
  exact congrArg (fun b : Byte => (({ s with line := { s.line with latch := none } }, .accepted [0, b]) : Handled)) inputs

/-! ### RESTART -/

theorem ownRestart_of_moving (moving : s.line.state ≠ .stopped) : ownRestart s = refuse .wrongState 0 s := if_pos moving

theorem ownRestart_of_stopped (stopped : s.line.state = .stopped) :
    ownRestart s = (forHeads (reportRestarted s) (restartState s),
      .accepted [1, opt8 codeLatch s.line.latch, flag8 s.line.safe]) := if_neg (not_not.mpr stopped)

/-- The report of a head that RESTART takes out of PROBATION (R108). -/
def restartReport (s : State) (p : PocketNo) : Option Report :=
  if s.heads[p].state = .probation then
    some (.headState p .probation .reseatPending .restart none s.heads[p].zeroOffset 0 0 s.retirements.length)
  else none

theorem restartedHead_of_probation {h : Head} (probation : h.state = .probation) :
    restartedHead h = { Head.initial with zeroOffset := h.zeroOffset, tallies := h.tallies, state := .reseatPending } := by
  unfold restartedHead
  rw [probation]

theorem restartedHead_eq (h : Head) :
    restartedHead h =
      { state := if h.state = .inService ∨ h.state = .retired ∨ h.state = .out then h.state else .reseatPending,
        consecutive := 0, remainder := 0, zeroOffset := h.zeroOffset, tallies := h.tallies, lastCan := none,
        cause := if h.state = .retired ∨ h.state = .out then h.cause else none,
        overflow := decide (h.state = .out) && h.overflow } := by
  unfold restartedHead
  cases state : h.state <;> rfl

theorem getElem_restartState_heads (p : PocketNo) (s : State) : (restartState s).heads[p] = restartedHead s.heads[p] := by
  unfold restartState
  rw [Fin.getElem_fin, Vector.getElem_ofFn]

/-- The state that RESTART leaves, with some reports queued. -/
def restartQueued (s : State) (reports : List Report) : State :=
  { restartState s with link := { (restartState s).link with reports := reports } }

theorem insertReport_of_level {r : Report} {l : List Report} (level : ∀ q ∈ l, reportLevel r ≤ reportLevel q) :
    insertReport r l = l ++ [r] := by
  induction l with
  | nil => rfl
  | cons q l ih =>
    obtain ⟨first, rest⟩ := List.forall_mem_cons.mp level
    rw [insertReport, if_pos first, ih rest, List.cons_append]

/-- A report of level FAULT joins a queue of its level that has room. -/
theorem sendReport_restartQueued {r : Report} {reports : List Report} (fault : reportLevel r = 2)
    (room : reports.length < 32) (faults : ∀ q ∈ reports, reportLevel q = 2) (s : State) :
    sendReport r (restartQueued s reports) = restartQueued s (reports ++ [r]) := by
  have enabled : levelEnabled (restartQueued s reports).link (reportLevel r) = true := by rw [fault]; rfl
  rw [sendReport_of_enabled enabled, queueReport_of_room (l := (restartQueued s reports).link) room,
    show (restartQueued s reports).link.reports = reports from rfl,
    insertReport_of_level fun q mem => (fault.trans (faults q mem).symm).le]
  rfl

theorem reportHead_restartQueued {reports : List Report} (probation : s.heads[p].state = .probation) :
    reportHead p .probation .restart (restartQueued s reports)
      = sendReport (.headState p .probation .reseatPending .restart none s.heads[p].zeroOffset 0 0 s.retirements.length)
          (restartQueued s reports) := by
  have head : (restartQueued s reports).heads[p]
      = { Head.initial with
          zeroOffset := s.heads[p].zeroOffset, tallies := s.heads[p].tallies, state := .reseatPending } :=
    (getElem_restartState_heads p s).trans (restartedHead_of_probation probation)
  unfold reportHead
  rw [head]
  rfl

theorem reportRestarted_queued {reports : List Report} (room : reports.length < 32)
    (faults : ∀ q ∈ reports, reportLevel q = 2) (p : PocketNo) :
    reportRestarted s p (restartQueued s reports) = restartQueued s (reports ++ (restartReport s p).toList) := by
  unfold reportRestarted restartReport
  split
  case isFalse => rw [Option.toList_none, List.append_nil]
  case isTrue probation =>
    rw [reportHead_restartQueued probation, sendReport_restartQueued rfl room faults]
    rfl

theorem restartReport_level {r : Report} (report : restartReport s p = some r) : reportLevel r = 2 := by
  unfold restartReport at report
  split at report
  · obtain rfl := Option.some.inj report
    rfl
  · cases report

theorem restartReport_level_of_mem {r : Report} (mem : r ∈ (restartReport s p).toList) : reportLevel r = 2 :=
  restartReport_level (Option.mem_toList.mp mem)

/-- The heads of a list report, in its order. -/
theorem foldl_reportRestarted (l : List PocketNo) (reports : List Report) (room : reports.length + l.length < 32)
    (faults : ∀ q ∈ reports, reportLevel q = 2) :
    l.foldl (fun t p => reportRestarted s p t) (restartQueued s reports)
      = restartQueued s (reports ++ l.filterMap (restartReport s)) := by
  induction l generalizing reports with
  | nil => rw [List.foldl_nil, List.filterMap_nil, List.append_nil]
  | cons p l ih =>
    rw [List.length_cons] at room
    have one : (restartReport s p).toList.length ≤ 1 := by cases restartReport s p <;> simp
    have more : (reports ++ (restartReport s p).toList).length + l.length < 32 := by
      rw [List.length_append]
      omega
    have level (q : Report) (mem : q ∈ reports ++ (restartReport s p).toList) : reportLevel q = 2 :=
      (List.mem_append.mp mem).elim (faults q) restartReport_level_of_mem
    rw [List.foldl_cons, reportRestarted_queued (by omega) faults, ih _ more level, List.append_assoc]
    cases report : restartReport s p with
    | none => rw [List.filterMap_cons_none report]; rfl
    | some r => rw [List.filterMap_cons_some report]; rfl

/-- The state after RESTART: its reports are those of the heads that were in PROBATION, by rising head number. -/
theorem ownRestart_state (stopped : s.line.state = .stopped) :
    (ownRestart s).1 = restartQueued s ((List.finRange 24).filterMap (restartReport s)) := by
  rw [ownRestart_of_stopped stopped]
  exact foldl_reportRestarted (List.finRange 24) [] (by rw [List.length_finRange]; decide) (fun q mem => nomatch mem)

/-! ### The link controller at RESTART (R184) -/

theorem restartLinePort_eq (v : PortState) :
    restartLinePort v = { receiver := .hunting, gapTimer := none, queue := v.queue.take 1, refusal := none,
                          outstanding := none, transmitter := v.transmitter } := rfl

/-- Whether a frame is a reply. -/
theorem any_reply (o : Option TxFrame) :
    o.any (fun t => decide (t.what = .reply)) = decide ((o.map (·.what)) = some .reply) := by
  cases o <;> simp

theorem filter_reply (o : Option TxFrame) :
    o.filter (fun t => decide (t.what = .reply)) = if (o.map (·.what)) = some .reply then o else none := by
  cases o with
  | none => rfl
  | some t => by_cases reply : t.what = .reply <;> simp [reply]

theorem restartServicePort_eq (v : PortState) :
    restartServicePort v =
      { receiver := .hunting, gapTimer := none,
        queue := if v.outstanding.any (fun t => decide (t.what = .reply))
            || v.transmitter.any (fun t => decide (t.what = .reply)) then v.queue.take 1 else [],
        refusal := none, outstanding := v.outstanding.filter fun t => decide (t.what = .reply),
        transmitter := v.transmitter } := by
  rw [any_reply, any_reply, filter_reply]
  unfold restartServicePort
  simp only [decide_eq_true_eq]

end LineControl

/-- Settles O46: each request is answered by its owner's effect at the owner's state; RESTART builds its state from the
power-on state, with the reports of its heads queued behind one another. -/
theorem lineControlRequestsAct : Obligations.LineControlRequestsAct := by
  unfold Obligations.LineControlRequestsAct
  intro reply restartPort restartReports restartLink
  have link (s : State) (stopped : s.line.state = .stopped) : (ownRestart s).1.link = restartLink s := by
    rw [ownRestart_state stopped]
    change LinkController.mk (restartLinePort s.link.linePort) (restartServicePort s.link.servicePort) _ _ _ _ _ = _
    rw [restartLinePort_eq, restartServicePort_eq]
    rfl
  refine ⟨link, fun tag s free => ?requests⟩
  intro f u
  have owner_state (kind : Byte) : (u kind).line.state = s.line.state := atOwner_lineState .line (f kind) s
  refine ⟨fun free_service => ⟨?noResync, ?noClear⟩, fun moving => ?resyncMoving, fun stopped other => ?resync,
    fun stopped synced => ?resyncSynced, fun active => ?active, fun guard leak => ?clear, ?safe, fun moving => ?restartMoving,
    fun stopped => ⟨(ownRestart (u 0x0A)).1, ?restart⟩⟩
  case noResync => exact receiveFrame_of_barred (f := f 0x05) rfl rfl free_service
  case noClear => exact receiveFrame_of_barred (f := f 0x06) rfl rfl free_service
  case resyncMoving =>
    rw [exec_resync free, ownResync_of_moving (by rw [atOwner_lineState]; exact moving)]
    rfl
  case resync =>
    rw [exec_resync free, ownResync_of_stopped (by rw [atOwner_lineState]; exact stopped),
      resyncPosition_of_not_synced (by rw [atOwner_position]; exact other)]
    rfl
  case resyncSynced =>
    rw [exec_resync free, ownResync_of_stopped (by rw [atOwner_lineState]; exact stopped),
      resyncPosition_of_synced (by rw [atOwner_position]; exact synced)]
    dsimp only [accept]
    rw [(losePosition_lost _).sync]
    rfl
  case active =>
    rw [exec_clearInterlock free, ownClearInterlock_of_active (by rw [atOwner_inputs]; exact active)]
    rfl
  case clear =>
    rw [exec_clearInterlock free, ownClearInterlock_of_clear (by rw [atOwner_inputs]; exact guard)
      (by rw [atOwner_inputs]; exact leak)]
  case safe =>
    rw [exec_clearSafe free]
    rfl
  case restartMoving =>
    rw [exec_restart free, ownRestart_of_moving (by rw [atOwner_lineState]; exact moving)]
    rfl
  case restart =>
    have owner_stopped : (u 0x0A).line.state = .stopped := (owner_state 0x0A).trans stopped
    refine ⟨?_, ?_⟩
    · rw [exec_restart free, ownRestart_of_stopped (by rw [atOwner_lineState]; exact stopped), atOwner_latch, atOwner_safe]
    · rw [link _ owner_stopped, ownRestart_state owner_stopped]
      refine ⟨rfl, rfl, rfl, rfl, fun p => ?_, rfl, rfl, rfl, rfl, rfl, rfl, fun p => ⟨?_, ?_⟩, rfl, rfl, rfl⟩
      · exact (getElem_restartState_heads p (u 0x0A)).trans (restartedHead_eq _)
      · exact getElem_pockets_atPowerOn (u 0x0A).inputs p
      · exact getElem_crimp_atPowerOn (u 0x0A).inputs p

end Sys2Proof.Machine
end

section
/-! PROOF. Charges (R48, R49, R54): a grant opens one and a close ends it. -/

namespace Sys2Proof.Machine

variable {s : State} {p : PocketNo} {c d : ChannelNo}

/-- The first IDLE channel is the one that a grant finds. -/
theorem lowestIdle_eq_some (idle : s.gas.channels[c].state = .idle)
    (lowest : ∀ d : ChannelNo, d < c → s.gas.channels[d].state ≠ .idle) : lowestIdle s = some c := by
  refine List.find?_eq_some_iff_getElem.mpr ⟨decide_eq_true idle, c.val, by rw [List.length_finRange]; exact c.isLt,
    List.getElem_finRange _, fun j before => ?_⟩
  rw [List.getElem_finRange]
  simpa using lowest ⟨j, _⟩ before

theorem grantOnce_of_granted {rest : List PocketNo} (ok : s.gas.supply = .ok) (waiting : s.gas.waiting = p :: rest)
    (found : lowestIdle s = some c) : grantOnce s = grantChannel c p s := by
  unfold grantOnce
  rw [ok, waiting, found]

theorem announceGrant_of_waiting (waits : s.pockets[p].step = .waitCharge) {r : CanRecord}
    (can : s.pockets[p].content = .can r) : announceGrant p c s
      = setPocket p { s.pockets[p] with step := .charging, content := .can { r with channel := some c } } s := by
  unfold announceGrant
  dsimp only
  rw [if_pos waits, can]

/-- The channel's side of a grant, for a can whose recipe stands. -/
theorem grantedChannel_of_can {b : Binding} {q : Recipe} {r : CanRecord} (can : s.pockets[p].content = .can r)
    (bound : s.pockets[p].binding = some b) (recipe : recipeIn b.slot s = some q) (ch : Channel) :
    grantedChannel p s ch = { ch with
      state := .charging, valveOpen := true, accumulated := 0, lastClose := none, settleError := false,
      grant := some { pocket := p, lot := r.lot, serial := r.serial, target := q.doseTarget, tolerance := q.doseTolerance },
      chargesSinceTare := saturatingSucc 65535 ch.chargesSinceTare,
      tareDue := ch.tareDue || decide (s.config.tareIntervalCount ≤ saturatingSucc 65535 ch.chargesSinceTare),
      noFlowTimer := some 80 } := by
  unfold grantedChannel boundRecipe canInPocket
  dsimp only
  rw [can, bound]
  dsimp only [Option.bind_some, canId]
  rw [recipe]
  rfl

theorem announceClose_of_charging (charging : s.pockets[p].step = .charging) :
    announceClose p s = setPocket p { s.pockets[p] with step := .charged } s := if_pos charging

theorem announceClose_of_not_charging (other : s.pockets[p].step ≠ .charging) : announceClose p s = s := if_neg other

/-- Settles O16: the grant is `grantChannel` of the lowest IDLE channel, the close `closedChannel` with the selector and the
pocket of the grant. -/
theorem chargesOpenByGrantAndCloseIntoSettling : Obligations.ChargesOpenByGrantAndCloseIntoSettling := by
  unfold Obligations.ChargesOpenByGrantAndCloseIntoSettling
  refine ⟨?grant, ?close⟩
  case grant =>
    intro p rest c b q r s ok waiting idle lowest waits can bound recipe ch charges
    have head : s.gas.waiting.erase p = rest := by rw [waiting, List.erase_cons_head]
    rw [grantOnce_of_granted ok waiting (lowestIdle_eq_some idle lowest), grantChannel_eq,
      announceGrant_of_waiting (s := chargeOpened c p s) waits can]
    unfold chargeOpened
    rw [modifyChannel, grantedChannel_of_can can bound recipe, head]
    rfl
  case close =>
    intro c cause g s granted ch k
    rw [closeCharge_of_grant granted]
    by_cases charging : k.step = .charging
    · rw [if_pos charging]
      exact announceClose_of_charging (s := setSelector g.pocket none _) charging
    · rw [if_neg charging]
      exact announceClose_of_not_charging (s := setSelector g.pocket none _) charging

end Sys2Proof.Machine
end

section
/-! SUPPORT. The ways of a gas channel out of its state (R48, R55, R60 to R63, R66): which of its values stay, what the tare
queue holds, and that no can loses anything on the way. -/

namespace Sys2Proof.Machine

variable {s t u : State} {p q : PocketNo} {c d : ChannelNo}

/-! ### The cans -/

/-- Every pocket holds what it held. -/
def SameCans (s t : State) : Prop := ∀ p : PocketNo, t.pockets[p].content = s.pockets[p].content

theorem SameCans.trans (h : SameCans s t) (k : SameCans t u) : SameCans s u := fun p => (k p).trans (h p)

theorem sameCans_of_pockets (h : t.pockets = s.pockets) : SameCans s t := fun p => by rw [h]

theorem setPocket_sameCans (p : PocketNo) {k : Pocket} (content : k.content = s.pockets[p].content) :
    SameCans s (setPocket p k s) := by
  intro q
  by_cases same : p = q
  · subst same
    rw [getElem_setPocket_self, content]
  · rw [getElem_setPocket_ne same]

theorem interruptCalibration_sameCans (p : PocketNo) (s : State) : SameCans s (interruptCalibration p s) := by
  unfold interruptCalibration
  split
  · rw [interruptHead_eq]
    exact setPocket_sameCans p rfl
  · exact fun _ => rfl

theorem forHeads_interruptCalibration_sameCans (s : State) : SameCans s (forHeads interruptCalibration s) :=
  List.foldlRecOn (motive := SameCans s) _ _ (fun _ => rfl) fun t same p _ =>
    same.trans (interruptCalibration_sameCans p t)

theorem changeLine_sameCans {also : State → State} (each : ∀ u, SameCans u (also u)) (after : LineState)
    (drain : Option DrainCause) (event : LineEvent) (s : State) : SameCans s (changeLine after drain event also s) := by
  have handed (u : State) (before : LineState) : (handOffLine before after u).pockets = u.pockets := by rw [handOffLine_eq]
  intro p
  unfold changeLine
  dsimp only
  rw [sendReport_pockets, handed]
  exact each (setLine after drain s) p

theorem checkDrain_sameCans (s : State) : SameCans s (checkDrain s) := by
  unfold checkDrain
  split
  · exact changeLine_sameCans forHeads_interruptCalibration_sameCans _ _ _ s
  · exact fun _ => rfl

theorem takeDrainCause_sameCans (cause : DrainCause) (s : State) : SameCans s (takeDrainCause cause s) := by
  have change (after : LineState) (drain : Option DrainCause) (event : LineEvent) :
      SameCans s (changeLine after drain event id s) := changeLine_sameCans (fun _ _ => rfl) _ _ _ s
  unfold takeDrainCause
  split
  · exact (change _ _ _).trans (checkDrain_sameCans _)
  · exact change _ _ _
  · exact fun _ => rfl

theorem checkInService_sameCans (s : State) : SameCans s (checkInService s) := by
  unfold checkInService
  split
  · exact takeDrainCause_sameCans _ s
  · exact fun _ => rfl

/-- What a pocket carries, but for the channel of its charge. -/
def cargo (k : Pocket) : Content :=
  match k.content with
  | .can r => .can { r with channel := none }
  | other => other

/-- A can found again by its cargo is the same can, but for the channel of its charge. -/
theorem can_of_cargo {k l : Pocket} {r : CanRecord} (same : cargo l = cargo k) (can : k.content = .can r) (ch : Option ChannelNo) :
    ∃ r', l.content = .can r' ∧ { r' with channel := ch } = { r with channel := ch } := by
  unfold cargo at same
  rw [can] at same
  dsimp only at same
  split at same
  case h_1 r' found =>
    exact ⟨r', found, congrArg (fun q : CanRecord => { q with channel := ch }) (Content.can.inj same)⟩
  case h_2 other => exact absurd same (other _)

theorem SameCans.cargo (h : SameCans s t) (p : PocketNo) : cargo t.pockets[p] = cargo s.pockets[p] := by
  unfold Machine.cargo
  rw [h p]

theorem cargo_announceGrant (q : PocketNo) (c : ChannelNo) (s : State) (p : PocketNo) :
    cargo (announceGrant q c s).pockets[p] = cargo s.pockets[p] := by
  unfold announceGrant
  dsimp only
  split
  case isFalse => rfl
  case isTrue =>
    by_cases same : q = p
    · subst same
      rw [getElem_setPocket_self]
      unfold cargo
      cases content : s.pockets[q].content <;> rfl
    · rw [getElem_setPocket_ne same]

theorem cargo_grantOnce (s : State) (p : PocketNo) : cargo (grantOnce s).pockets[p] = cargo s.pockets[p] := by
  unfold grantOnce
  split
  · exact cargo_announceGrant _ _ (chargeOpened _ _ s) p
  · rfl

theorem cargo_grantSearch (s : State) (p : PocketNo) : cargo (grantSearch s).pockets[p] = cargo s.pockets[p] := by
  unfold grantSearch
  rw [cargo_grantOnce, cargo_grantOnce, cargo_grantOnce, cargo_grantOnce]

/-! ### The meter values of a channel -/

/-- The values of a channel that neither a grant nor a change of state touches: preact, out-of-band run, zero offset, standing
reading and time since tare. -/
def meterView (ch : Channel) : Int × Nat × Int × Int × Nat :=
  (ch.preact, ch.outOfBand, ch.zeroOffset, ch.standing, ch.timeSinceTare)

theorem meterView_setChannel {ch : Channel} (view : meterView ch = meterView s.gas.channels[d]) (c : ChannelNo) :
    meterView (setChannel d ch s).gas.channels[c] = meterView s.gas.channels[c] := by
  by_cases same : d = c
  · subst same
    rw [getElem_setChannel_self, view]
  · rw [getElem_setChannel_ne same]

theorem meterView_grantOnce (c : ChannelNo) (s : State) :
    meterView (grantOnce s).gas.channels[c] = meterView s.gas.channels[c] := by
  unfold grantOnce
  split
  case h_1 p _ d _ _ _ =>
    rw [grantChannel_eq, announceGrant_eq]
    have granted : meterView (grantedChannel p { s with gas := { s.gas with waiting := s.gas.waiting.erase p } }
        s.gas.channels[d]) = meterView s.gas.channels[d] := rfl
    exact meterView_setChannel granted c
  case h_2 => rfl

theorem meterView_grantSearch (c : ChannelNo) (s : State) :
    meterView (grantSearch s).gas.channels[c] = meterView s.gas.channels[c] := by
  unfold grantSearch
  rw [meterView_grantOnce, meterView_grantOnce, meterView_grantOnce, meterView_grantOnce]

/-! ### No grant is made (R48) -/

/-- A grant search finds nothing to grant: nobody waits, or the supply is LOW. -/
abbrev NoGrant (s : State) : Prop := s.gas.waiting = [] ∨ s.gas.supply = .low

theorem grantSearch_of_noGrant (h : NoGrant s) : grantSearch s = s := h.elim grantSearch_of_resting grantSearch_of_low

theorem enterIdle_of_noGrant (h : NoGrant s) :
    enterIdle c s = setChannel c { s.gas.channels[c] with state := .idle, creepWindow := [] } s :=
  grantSearch_of_noGrant (s := setChannel c _ s) h

/-! ### The tare queue (R62) -/

/-- A channel that enters TARE. -/
def tareEntered (ch : Channel) : Channel := { ch with state := .tare, tareTimer := some 40 }

theorem tareStart_eq (s : State) :
    tareStart s = { s with gas := { s.gas with channels := (tareStart s).gas.channels } } := by
  unfold tareStart
  split
  · split <;> rfl
  · rfl

/-- The channel that a tare start finds at the head of the queue enters TARE; every other one stays as it is. -/
theorem getElem_tareStart (c : ChannelNo) (s : State) :
    (tareStart s).gas.channels[c] = s.gas.channels[c]
      ∨ (tareStart s).gas.channels[c] = tareEntered s.gas.channels[c] := by
  unfold tareStart
  split
  case h_1 d _ _ =>
    split
    · exact .inl rfl
    · by_cases same : d = c
      · subst same
        exact .inr (getElem_setChannel_self d _ s)
      · exact .inl (getElem_setChannel_ne same _ s)
  case h_2 => exact .inl rfl

theorem meterView_tareStart (c : ChannelNo) (s : State) :
    meterView (tareStart s).gas.channels[c] = meterView s.gas.channels[c] := by
  rcases getElem_tareStart c s with same | entered
  · rw [same]
  · rw [entered]
    rfl

theorem getElem_queueTare_self (c : ChannelNo) (s : State) :
    (queueTare c s).gas.channels[c] = { s.gas.channels[c] with state := .tareWait } := getElem_setChannel_self c _ s

theorem getElem_queueTare_ne (h : d ≠ c) (s : State) : (queueTare d s).gas.channels[c] = s.gas.channels[c] :=
  getElem_setChannel_ne h _ s

/-- A channel that joins the tare queue and perhaps enters TARE at once: the values it keeps. -/
theorem tareStart_queueTare (c : ChannelNo) (s : State) :
    let ch := (tareStart (queueTare c s)).gas.channels[c]
    (ch.state = .tareWait ∨ ch.state = .tare) ∧ ch.tareDue = s.gas.channels[c].tareDue
      ∧ meterView ch = meterView s.gas.channels[c] := by
  rcases getElem_tareStart c (queueTare c s) with same | entered
  · rw [same, getElem_queueTare_self]
    exact ⟨.inl rfl, rfl, rfl⟩
  · rw [entered, getElem_queueTare_self]
    exact ⟨.inr rfl, rfl, rfl⟩

theorem tareStart_queueTare_tareQueue (c : ChannelNo) (s : State) :
    (tareStart (queueTare c s)).gas.tareQueue
      = if c ∈ s.gas.tareQueue then s.gas.tareQueue else s.gas.tareQueue ++ [c] := tareStart_tareQueue (queueTare c s)

/-! ### A channel leaves service (R55, R60, R66) -/

/-- A channel's own record at its entry to OFF. -/
def switchedOff (ch : Channel) : Channel := { ch with state := .off, offPending := false, tareTimer := none }

/-- A channel out of service with record `ch`, its report sent and the tare queue moved up. -/
def outOfService (c : ChannelNo) (ch : Channel) (s : State) : State :=
  checkInService (tareStart (reportChannel c (leaveTareQueue c (setChannel c ch s))))

theorem enterFault_eq_outOfService (c : ChannelNo) (cause : ChannelFault) (s : State) :
    enterFault c cause s = outOfService c (faultedChannel cause s.gas.channels[c]) s := rfl

theorem enterOff_eq_outOfService (c : ChannelNo) (s : State) :
    enterOff c s = outOfService c (switchedOff s.gas.channels[c]) s := rfl

theorem reportChannel_pockets (c : ChannelNo) (s : State) : (reportChannel c s).pockets = s.pockets :=
  sendReport_pockets _ _

theorem outOfService_tareQueue (c : ChannelNo) (ch : Channel) (s : State) :
    (outOfService c ch s).gas.tareQueue = s.gas.tareQueue.erase c := by
  unfold outOfService
  rw [checkInService_gas, tareStart_tareQueue, reportChannel_gas]
  rfl

/-- R62: the channel has left the tare queue before the queue moves up, so it is not the one that enters TARE. -/
theorem getElem_outOfService_self {ch : Channel} (once : s.gas.tareQueue.Nodup) :
    (outOfService c ch s).gas.channels[c] = ch := by
  have out : c ∉ (reportChannel c (leaveTareQueue c (setChannel c ch s))).gas.tareQueue := by
    rw [reportChannel_gas]
    exact once.not_mem_erase
  unfold outOfService
  rw [checkInService_gas, getElem_tareStart_of_not_mem out, reportChannel_gas]
  exact getElem_setChannel_self c _ s

theorem getElem_enterOff_self (once : s.gas.tareQueue.Nodup) :
    (enterOff c s).gas.channels[c] = switchedOff s.gas.channels[c] := getElem_outOfService_self once

theorem outOfService_sameCans (c : ChannelNo) (ch : Channel) (s : State) : SameCans s (outOfService c ch s) := by
  refine SameCans.trans (sameCans_of_pockets ?_) (checkInService_sameCans _)
  rw [tareStart_eq]
  exact reportChannel_pockets c _

end Sys2Proof.Machine
end

section
/-! PROOF. R56 to R60: the settle of a charge ends. -/

namespace Sys2Proof.Machine

variable {s : State} {p : PocketNo} {c : ChannelNo} {g : Grant} {cause : CloseCause} {err : Bool} {dose : Int} {run : Nat}

/-! ### The dose result (Table 3.4) -/

/-- A dose outside its band (R57). -/
abbrev OutOfBand (dose : Int) (g : Grant) : Prop := dose < g.target - g.tolerance ∨ (g.target : Int) + g.tolerance < dose

theorem doseBand_eq (dose : Int) (g : Grant) :
    doseBand dose g = if dose < g.target - g.tolerance then [.doseUnder]
      else if (g.target : Int) + g.tolerance < dose then [.doseOver] else [] := rfl

theorem doseBand_eq_nil_iff (dose : Int) (g : Grant) : doseBand dose g = [] ↔ ¬ OutOfBand dose g := by
  rw [doseBand_eq, not_or]
  split
  case isTrue low => exact ⟨nofun, fun within => absurd low within.1⟩
  case isFalse reaches =>
    split
    case isTrue high => exact ⟨nofun, fun within => absurd high within.2⟩
    case isFalse holds => exact ⟨fun _ => ⟨reaches, holds⟩, fun _ => rfl⟩

theorem unmeasured_iff : unmeasured cause err = true ↔ ¬ (cause ≠ .noFlow ∧ cause ≠ .meter ∧ err = false) := by
  unfold unmeasured
  cases err <;> cases cause <;> decide

theorem bandCounts_iff : bandCounts cause err = true ↔ (cause = .target ∨ cause = .forced) ∧ err = false := by
  unfold bandCounts
  cases err <;> cases cause <;> decide

/-- The reasons of a dose result, in the words of Table 3.4. -/
theorem doseReasons_eq (cause : CloseCause) (err : Bool) (dose : Int) (g : Grant) :
    doseReasons cause err dose g
      = (if ¬ (cause ≠ .noFlow ∧ cause ≠ .meter ∧ err = false) then [.doseUnmeasured]
          else if dose < g.target - g.tolerance then [.doseUnder]
          else if (g.target : Int) + g.tolerance < dose then [.doseOver] else [])
        ++ (if cause = .halt then [.chargeAborted] else []) := by
  unfold doseReasons
  rw [doseBand_eq]
  simp only [unmeasured_iff]

/-- The run of out-of-band doses, in the words of Table 3.4. -/
theorem nextOutOfBand_eq (cause : CloseCause) (err : Bool) (dose : Int) (g : Grant) (run : Nat) :
    nextOutOfBand cause err dose g run
      = if (cause = .target ∨ cause = .forced) ∧ err = false then
          if OutOfBand dose g then min 3 (run + 1) else 0
        else run := by
  unfold nextOutOfBand
  rw [saturatingSucc_eq_min]
  simp only [bandCounts_iff, doseBand_eq_nil_iff, ite_not]

/-! ### The fault of a settle end (R60) -/

theorem settleFault_of_noFlow : settleFault .noFlow err dose g run = some .noFlow := rfl

theorem settleFault_of_meter (meter : cause = .meter ∨ cause ≠ .noFlow ∧ err = true) :
    settleFault cause err dose g run = some .meter := by
  unfold settleFault
  rcases meter with rfl | ⟨flows, rfl⟩
  · rfl
  · rw [if_neg flows, Bool.or_true]
    rfl

/-- A measured dose leads to a fault exactly where the run of out-of-band doses is full. -/
theorem settleFault_of_measured (measured : cause ≠ .noFlow ∧ cause ≠ .meter ∧ err = false) :
    settleFault cause err dose g run
      = if (cause = .target ∨ cause = .forced) ∧ err = false ∧ OutOfBand dose g ∧ 3 ≤ run then some .doseRun else none := by
  obtain ⟨flows, meter, clear⟩ := measured
  unfold settleFault
  rw [if_neg flows, if_neg (by simp [meter, clear])]
  simp only [Bool.and_eq_true, bandCounts_iff, decide_eq_true_eq, ne_eq, doseBand_eq_nil_iff, not_not, and_assoc]

theorem measured_of_counts (counts : (cause = .target ∨ cause = .forced) ∧ err = false) :
    cause ≠ .noFlow ∧ cause ≠ .meter ∧ err = false := by
  obtain ⟨rfl | rfl, clear⟩ := counts <;> exact ⟨nofun, nofun, clear⟩

theorem settleFault_of_run (counts : (cause = .target ∨ cause = .forced) ∧ err = false) (out : OutOfBand dose g)
    (full : 2 ≤ run) : settleFault cause err dose g (nextOutOfBand cause err dose g run) = some .doseRun := by
  have reaches : 3 ≤ nextOutOfBand cause err dose g run := by
    rw [nextOutOfBand_eq, if_pos counts, if_pos out]
    omega
  rw [settleFault_of_measured (measured_of_counts counts)]
  exact if_pos ⟨counts.1, counts.2, out, reaches⟩

theorem settleFault_of_no_run (measured : cause ≠ .noFlow ∧ cause ≠ .meter ∧ err = false)
    (short : ¬ (((cause = .target ∨ cause = .forced) ∧ err = false) ∧ OutOfBand dose g ∧ 2 ≤ run)) :
    settleFault cause err dose g (nextOutOfBand cause err dose g run) = none := by
  rw [settleFault_of_measured measured]
  refine if_neg fun ⟨closed, clear, out, reaches⟩ => short ⟨⟨closed, clear⟩, out, ?_⟩
  rw [nextOutOfBand_eq, if_pos ⟨closed, clear⟩, if_pos out] at reaches
  omega

/-! ### The delivery of the dose (R38) -/

theorem deliver_eq (p : PocketNo) (id : CanId) (write : CanRecord → CanRecord) (s : State) :
    deliver p id write s = { s with pockets := (deliver p id write s).pockets } := by
  unfold deliver
  split
  · split <;> rfl
  · rfl

theorem deliver_of_gone {id : CanId} {write : CanRecord → CanRecord}
    (gone : ∀ r, s.pockets[p].content = .can r → r.lot ≠ id.lot ∨ r.serial ≠ id.serial) : deliver p id write s = s := by
  unfold deliver
  split
  case h_1 r can => exact if_neg fun same => (gone r can).elim (· same.1) (· same.2)
  case h_2 => rfl

/-! ### The destination (R60) -/

theorem settleDestination_of_fault (fault : ChannelFault) :
    settleDestination c (some fault) s = outOfService c (faultedChannel fault s.gas.channels[c]) s := rfl

theorem settleDestination_of_off (off : s.gas.channels[c].offPending = true) :
    settleDestination c none s = outOfService c (switchedOff s.gas.channels[c]) s := if_pos off

theorem settleDestination_of_due (on : s.gas.channels[c].offPending = false) (due : s.gas.channels[c].tareDue = true) :
    settleDestination c none s = tareStart (queueTare c s) :=
  (if_neg (by rw [on]; decide)).trans (if_pos due)

theorem settleDestination_of_idle (on : s.gas.channels[c].offPending = false) (early : s.gas.channels[c].tareDue = false) :
    settleDestination c none s = enterIdle c s :=
  (if_neg (by rw [on]; decide)).trans (if_neg (by rw [early]; decide))

section Destination

variable (fault : Option ChannelFault)

theorem meterView_enterIdle (c : ChannelNo) (s : State) :
    meterView (enterIdle c s).gas.channels[c] = meterView s.gas.channels[c] := by
  have idle : meterView { s.gas.channels[c] with state := .idle, creepWindow := [] } = meterView s.gas.channels[c] := rfl
  exact (meterView_grantSearch c (setChannel c _ s)).trans (meterView_setChannel idle c)

theorem meterView_settleDestination (once : s.gas.tareQueue.Nodup) :
    meterView (settleDestination c fault s).gas.channels[c] = meterView s.gas.channels[c] := by
  cases fault with
  | some cause =>
    rw [settleDestination_of_fault, getElem_outOfService_self once]
    rfl
  | none =>
    cases off : s.gas.channels[c].offPending with
    | true =>
      rw [settleDestination_of_off off, getElem_outOfService_self once]
      rfl
    | false =>
      cases due : s.gas.channels[c].tareDue with
      | true =>
        rw [settleDestination_of_due off due]
        exact (tareStart_queueTare c s).2.2
      | false =>
        rw [settleDestination_of_idle off due]
        exact meterView_enterIdle c s

theorem tareStart_queueTare_pockets (c : ChannelNo) (s : State) : (tareStart (queueTare c s)).pockets = s.pockets := by
  rw [tareStart_eq]
  rfl

theorem cargo_settleDestination (p : PocketNo) : cargo (settleDestination c fault s).pockets[p] = cargo s.pockets[p] := by
  cases fault with
  | some cause => exact (outOfService_sameCans c _ s).cargo p
  | none =>
    cases off : s.gas.channels[c].offPending with
    | true =>
      rw [settleDestination_of_off off]
      exact (outOfService_sameCans c _ s).cargo p
    | false =>
      cases due : s.gas.channels[c].tareDue with
      | true => rw [settleDestination_of_due off due, tareStart_queueTare_pockets]
      | false =>
        rw [settleDestination_of_idle off due]
        exact cargo_grantSearch _ p

theorem settleDestination_sameCans (rests : NoGrant s) : SameCans s (settleDestination c fault s) := by
  cases fault with
  | some cause => exact outOfService_sameCans c _ s
  | none =>
    cases off : s.gas.channels[c].offPending with
    | true =>
      rw [settleDestination_of_off off]
      exact outOfService_sameCans c _ s
    | false =>
      cases due : s.gas.channels[c].tareDue with
      | true =>
        rw [settleDestination_of_due off due]
        exact sameCans_of_pockets (tareStart_queueTare_pockets c s)
      | false =>
        rw [settleDestination_of_idle off due, enterIdle_of_noGrant rests]
        exact fun _ => rfl

end Destination

/-! ### The settle end -/

/-- The state in which the channel of a settle end goes to its destination: its own record updated and the dose delivered
(R58, R59, R38). -/
def doseDelivered (c : ChannelNo) (g : Grant) (mass : Int) (cause : CloseCause) (s : State) : State :=
  deliver g.pocket { lot := g.lot, serial := g.serial }
    (fun r => withReasons (doseReasons cause s.gas.channels[c].settleError s.gas.channels[c].accumulated g)
      { r with dose := some s.gas.channels[c].accumulated })
    (setChannel c (settledChannel g mass cause s.gas.channels[c]) s)

theorem doseDelivered_gas {mass : Int} : (doseDelivered c g mass cause s).gas
    = (setChannel c (settledChannel g mass cause s.gas.channels[c]) s).gas := by
  unfold doseDelivered
  rw [deliver_eq]

theorem getElem_doseDelivered_channel {mass : Int} : (doseDelivered c g mass cause s).gas.channels[c]
    = settledChannel g mass cause s.gas.channels[c] := by
  rw [doseDelivered_gas]
  exact getElem_setChannel_self c _ s

theorem doseDelivered_of_can {mass : Int} {r : CanRecord} (can : s.pockets[g.pocket].content = .can r) (lot : r.lot = g.lot)
    (serial : r.serial = g.serial) :
    (doseDelivered c g mass cause s).pockets[g.pocket].content
      = .can (withReasons (doseReasons cause s.gas.channels[c].settleError s.gas.channels[c].accumulated g)
          { r with dose := some s.gas.channels[c].accumulated }) := by
  have id : ({ lot := g.lot, serial := g.serial } : CanId) = canId r := by rw [← lot, ← serial]; rfl
  unfold doseDelivered
  rw [id, deliver_of_can (s := setChannel c _ s) can, getElem_setPocket_self]

theorem doseDelivered_sameCans_of_gone {mass : Int}
    (gone : ∀ r, s.pockets[g.pocket].content = .can r → r.lot ≠ g.lot ∨ r.serial ≠ g.serial) :
    SameCans s (doseDelivered c g mass cause s) := by
  unfold doseDelivered
  rw [deliver_of_gone (s := setChannel c _ s) gone]
  exact fun _ => rfl

theorem settleExpires_of_settling {mass : Int} (settling : s.gas.channels[c].state = .settling)
    (runs : s.gas.channels[c].settleTimer ≠ none) (granted : s.gas.channels[c].grant = some g)
    (closed : s.gas.channels[c].lastClose = some (mass, cause)) :
    settleExpires c s = settleDestination c
      (settleFault cause s.gas.channels[c].settleError s.gas.channels[c].accumulated g
        (nextOutOfBand cause s.gas.channels[c].settleError s.gas.channels[c].accumulated g s.gas.channels[c].outOfBand))
      (doseDelivered c g mass cause s) := by
  unfold settleExpires
  rw [if_pos ⟨Option.isSome_iff_ne_none.mpr runs, settling⟩]
  unfold endSettle
  dsimp only
  rw [granted, closed]
  rfl

/-- Settles O18: the values of the channel are those of `settledChannel`, which no destination touches; the dose is delivered
before the destination, and no destination takes it back. -/
theorem settleEndDerivesTheDoseResult : Obligations.SettleEndDerivesTheDoseResult := by
  unfold Obligations.SettleEndDerivesTheDoseResult
  intro c g mass cause s ch dose low high counts measured run band aborted settling runs granted closed once
  have ends := settleExpires_of_settling settling runs granted closed
  have settled : (doseDelivered c g mass cause s).gas.channels[c] = settledChannel g mass cause ch :=
    getElem_doseDelivered_channel
  have queue : (doseDelivered c g mass cause s).gas.tareQueue.Nodup := by
    rw [doseDelivered_gas]
    exact once
  have rests (h : NoGrant s) : NoGrant (doseDelivered c g mass cause s) := by
    unfold NoGrant
    rw [doseDelivered_gas]
    exact h
  have view := meterView_settleDestination (c := c) (fault := settleFault cause ch.settleError dose g
    (nextOutOfBand cause ch.settleError dose g ch.outOfBand)) queue
  rw [settled, ← ends] at view
  have off_pending : (settledChannel g mass cause ch).offPending = ch.offPending := rfl
  have tare_due : (settledChannel g mass cause ch).tareDue = ch.tareDue := rfl
  -- The fault of the settle end decides the state: `faults` where there is one.
  have faults (fault : ChannelFault) (h : settleFault cause ch.settleError dose g
      (nextOutOfBand cause ch.settleError dose g ch.outOfBand) = some fault) :
      (finish (settleExpires c s)).gas.channels[c].state = .fault
        ∧ (finish (settleExpires c s)).gas.channels[c].faultCause = some fault := by
    rw [ends, h, finish_gas, settleDestination_of_fault, getElem_outOfService_self queue]
    exact ⟨rfl, rfl⟩
  refine ⟨finish (settleExpires c s), rfl, ?preact, ?run, fun r can lot serial => ?dose, fun gone quiet p => ?gone,
    fun noFlow => faults _ (by rw [noFlow]; rfl), fun meter => faults _ (settleFault_of_meter meter),
    fun counted out full => faults _ (settleFault_of_run counted out full), fun is_measured short => ?leaves⟩
  case preact =>
    rw [finish_gas]
    refine (congrArg Prod.fst view).trans ?_
    refine if_congr ?_ rfl rfl
    simp
  case run =>
    rw [finish_gas]
    exact (congrArg (fun v => v.2.1) view).trans (nextOutOfBand_eq _ _ _ _ _)
  case dose =>
    have delivered := doseDelivered_of_can (c := c) (mass := mass) (cause := cause) can lot serial
    rw [finish_pockets, ends]
    obtain ⟨r', content, same⟩ := can_of_cargo (cargo_settleDestination _ _) delivered r.channel
    refine ⟨r', content, same.trans ?_⟩
    rw [doseReasons_eq]
    rfl
  case gone =>
    rw [finish_pockets, ends]
    exact (doseDelivered_sameCans_of_gone gone).trans (settleDestination_sameCans _ (rests quiet)) p
  case leaves =>
    rw [finish_gas, ends, settleFault_of_no_run is_measured short]
    refine ⟨fun off => ?off, fun on due => ?due, fun on early quiet => ?idle⟩
    case off =>
      rw [settleDestination_of_off (by rw [settled]; exact off), getElem_outOfService_self queue]
      rfl
    case due =>
      rw [settleDestination_of_due (by rw [settled]; exact on) (by rw [settled]; exact due)]
      exact (tareStart_queueTare c _).1
    case idle =>
      rw [settleDestination_of_idle (by rw [settled]; exact on) (by rw [settled]; exact early),
        enterIdle_of_noGrant (rests quiet), getElem_setChannel_self, settled]
      exact ⟨rfl, rfl⟩

end Sys2Proof.Machine
end

section
/-! PROOF. R61, R63: the tare of a channel ends, and a tare falls due. -/

namespace Sys2Proof.Machine

variable {s : State} {c : ChannelNo}

theorem setChannel_setChannel (c : ChannelNo) (a b : Channel) (s : State) :
    setChannel c b (setChannel c a s) = setChannel c b s := by
  unfold setChannel
  dsimp only
  rw [Vector.set_set]

/-! ### The tare ends (R63) -/

/-- The channel tared and out of the queue. -/
def tareTaken (c : ChannelNo) (s : State) : State := leaveTareQueue c (setChannel c (taredChannel s.gas.channels[c]) s)

theorem getElem_tareTaken (c : ChannelNo) (s : State) :
    (tareTaken c s).gas.channels[c] = taredChannel s.gas.channels[c] := getElem_setChannel_self c _ s

theorem tareTaken_tareQueue (c : ChannelNo) (s : State) : (tareTaken c s).gas.tareQueue = s.gas.tareQueue.erase c := rfl

theorem endTare_of_drift (drift : 300 < s.gas.channels[c].standing.natAbs) :
    endTare c s = outOfService c (faultedChannel .drift (tareTaken c s).gas.channels[c]) (tareTaken c s) := by
  unfold endTare
  refine if_pos ?_
  change 300 < (tareTaken c s).gas.channels[c].zeroOffset.natAbs
  rw [getElem_tareTaken]
  exact drift

theorem endTare_of_within (within : s.gas.channels[c].standing.natAbs ≤ 300) :
    endTare c s = if s.gas.channels[c].offPending then
        outOfService c (switchedOff (tareTaken c s).gas.channels[c]) (tareTaken c s)
      else tareStart (enterIdle c (tareTaken c s)) := by
  unfold endTare
  refine (if_neg ?_).trans ?_
  · change ¬ 300 < (tareTaken c s).gas.channels[c].zeroOffset.natAbs
    rw [getElem_tareTaken]
    exact Nat.not_lt.mpr within
  · refine if_congr ?_ rfl rfl
    change (tareTaken c s).gas.channels[c].offPending = true ↔ _
    rw [getElem_tareTaken]
    rfl

theorem enterIdle_tareQueue (c : ChannelNo) (s : State) : (enterIdle c s).gas.tareQueue = s.gas.tareQueue := by
  unfold enterIdle
  rw [grantSearch_eq]
  rfl

/-- Whatever the end of the tare leads to, the channel shows its new zero and has left the queue. -/
theorem endTare_keeps_zero (once : s.gas.tareQueue.Nodup) :
    meterView (endTare c s).gas.channels[c] = meterView (taredChannel s.gas.channels[c])
      ∧ (endTare c s).gas.tareQueue ⊆ s.gas.tareQueue.erase c := by
  have left : (tareTaken c s).gas.tareQueue.Nodup := once.erase c
  by_cases drift : 300 < s.gas.channels[c].standing.natAbs
  · rw [endTare_of_drift drift, getElem_outOfService_self left, outOfService_tareQueue, getElem_tareTaken]
    exact ⟨rfl, List.erase_subset⟩
  · rw [endTare_of_within (Nat.not_lt.mp drift)]
    split
    · rw [getElem_outOfService_self left, outOfService_tareQueue, getElem_tareTaken]
      exact ⟨rfl, List.erase_subset⟩
    · rw [meterView_tareStart, meterView_enterIdle, getElem_tareTaken, tareStart_tareQueue, enterIdle_tareQueue]
      exact ⟨rfl, List.Subset.refl _⟩

/-- With nothing to grant, a channel within its zero and not to be switched off is IDLE. -/
theorem endTare_of_idle (within : s.gas.channels[c].standing.natAbs ≤ 300) (on : s.gas.channels[c].offPending = false)
    (once : s.gas.tareQueue.Nodup) (rests : NoGrant s) :
    (endTare c s).gas.channels[c] = { taredChannel s.gas.channels[c] with state := .idle, creepWindow := [] } := by
  have out : c ∉ (enterIdle c (tareTaken c s)).gas.tareQueue := by
    rw [enterIdle_tareQueue]
    exact once.not_mem_erase
  rw [endTare_of_within within, on, if_neg Bool.false_ne_true, getElem_tareStart_of_not_mem out,
    enterIdle_of_noGrant (s := tareTaken c s) rests, getElem_setChannel_self, getElem_tareTaken]

theorem tareExpires_of_tare (tare : s.gas.channels[c].state = .tare) (runs : s.gas.channels[c].tareTimer ≠ none) :
    tareExpires c s = endTare c s := if_pos ⟨Option.isSome_iff_ne_none.mpr runs, tare⟩

/-! ### A tare falls due (R61) -/

/-- A channel whose tare has fallen due by time, at a tare interval time in µs. -/
def dueByTime (interval : Nat) (ch : Channel) : Channel :=
  { ch with timeSinceTare := max ch.timeSinceTare interval, tareDue := true }

/-- The due flag is set; the rest of `setTareDue` is for an IDLE channel. -/
theorem tareTimeReached_of_running (running : tareClockRuns s.gas.channels[c].state = true) :
    tareTimeReached c s =
      let t := setChannel c (dueByTime (s.config.tareIntervalTime * 1000000) s.gas.channels[c]) s
      if s.gas.channels[c].state = .idle then tareStart (queueTare c t) else t := by
  unfold tareTimeReached
  rw [if_pos running]
  unfold setTareDue modifyChannel
  dsimp only
  rw [getElem_setChannel_self, setChannel_setChannel, getElem_setChannel_self]
  rfl

theorem tareTimeReached_of_held (held : tareClockRuns s.gas.channels[c].state = false) : tareTimeReached c s = s :=
  if_neg (by rw [held]; decide)

/-- Settles O19: the tare ends by `endTare`, whose branches are the three outcomes, and falls due in the states in which the
clock runs. -/
theorem taresEndAndFallDue : Obligations.TaresEndAndFallDue := by
  unfold Obligations.TaresEndAndFallDue
  refine ⟨fun c s => ?tare, fun c s => ?due⟩
  case tare =>
    intro ch tare runs once
    have ends := tareExpires_of_tare tare runs
    obtain ⟨view, queue⟩ := endTare_keeps_zero (c := c) once
    have left : (tareTaken c s).gas.tareQueue.Nodup := once.erase c
    refine ⟨finish (tareExpires c s), rfl, ?_⟩
    rw [finish_gas, ends]
    refine ⟨congrArg (fun v => v.2.2.1) view, congrArg (fun v => v.2.2.2.1) view, congrArg (fun v => v.2.2.2.2) view,
      fun stays => once.not_mem_erase (queue stays), fun drift => ?drift, fun within off => ?off,
      fun within on rests => ?idle⟩
    case drift =>
      rw [endTare_of_drift drift, getElem_outOfService_self left]
      exact ⟨rfl, rfl⟩
    case off =>
      rw [endTare_of_within within, off, if_pos rfl, getElem_outOfService_self left]
      rfl
    case idle =>
      rw [endTare_of_idle within on once rests]
      exact ⟨rfl, rfl, rfl⟩
  case due =>
    intro ch due
    have reached : exec (.tareIntervalTimeReached c) s = .next (finish (tareTimeReached c s)) := rfl
    rw [reached]
    refine ⟨fun state => ?busy, fun state => ⟨_, rfl, ?idle⟩, fun state => ?held⟩
    case busy =>
      have running : tareClockRuns ch.state = true := by rcases state with state | state <;> rw [state] <;> rfl
      have other : ch.state ≠ .idle := by rcases state with state | state <;> rw [state] <;> exact nofun
      rw [tareTimeReached_of_running running]
      exact congrArg (fun t => Host.Outcome.next (finish t)) (if_neg other)
    case idle =>
      obtain ⟨waits, flag, -⟩ := tareStart_queueTare c (setChannel c due s)
      have queued := tareStart_queueTare_tareQueue c (setChannel c due s)
      rw [getElem_setChannel_self] at flag
      have reaches : tareTimeReached c s = tareStart (queueTare c (setChannel c due s)) :=
        (tareTimeReached_of_running (by rw [state]; rfl)).trans (if_pos state)
      rw [finish_gas, reaches]
      exact ⟨flag, queued, waits⟩
    case held =>
      have held : tareClockRuns ch.state = false := by
        rcases state with state | state | state | state <;> rw [state] <;> rfl
      rw [tareTimeReached_of_held held]

end Sys2Proof.Machine
end

section
/-! PROOF. R66: SET_CHANNEL takes a channel out of service and brings it back. -/

namespace Sys2Proof.Machine

variable {port : Port} {tag channel action : Byte} {c : ChannelNo} {s : State}

/-! ### The actions by the state of the channel (Table 3.5) -/

theorem switchOff_of_ready (ready : s.gas.channels[c].state = .idle ∨ s.gas.channels[c].state = .tareWait) :
    switchOff c s = enterOff c s := by
  unfold switchOff
  rcases ready with state | state <;> rw [state]

theorem switchOff_of_busy (busy : s.gas.channels[c].state = .tare ∨ s.gas.channels[c].state = .charging
    ∨ s.gas.channels[c].state = .settling) :
    switchOff c s = setChannel c { s.gas.channels[c] with offPending := true } s := by
  unfold switchOff
  rcases busy with state | state | state <;> rw [state] <;> rfl

theorem switchOff_of_out (out : s.gas.channels[c].state = .fault ∨ s.gas.channels[c].state = .off) : switchOff c s = s := by
  unfold switchOff
  rcases out with state | state <;> rw [state]

theorem switchOn_of_ready (ready : s.gas.channels[c].state = .idle ∨ s.gas.channels[c].state = .tareWait) :
    switchOn c s = s := by
  unfold switchOn
  rcases ready with state | state <;> rw [state]

theorem switchOn_of_busy (busy : s.gas.channels[c].state = .tare ∨ s.gas.channels[c].state = .charging
    ∨ s.gas.channels[c].state = .settling) :
    switchOn c s = setChannel c { s.gas.channels[c] with offPending := false } s := by
  unfold switchOn
  rcases busy with state | state | state <;> rw [state] <;> rfl

theorem switchOn_of_out (out : s.gas.channels[c].state = .fault ∨ s.gas.channels[c].state = .off) :
    switchOn c s = returnToService c s := by
  unfold switchOn
  rcases out with state | state <;> rw [state]

/-! ### The return to service -/

/-- A channel that returns to service, at the tail of the tare queue. -/
def returned (ch : Channel) : Channel :=
  { ch with state := .tareWait, chargesSinceTare := 0, timeSinceTare := 0, standing := 0, outOfBand := 0, tareDue := false,
            faultCause := none }

theorem returnToService_eq (c : ChannelNo) (s : State) :
    returnToService c s = tareStart (reportChannel c (queueTare c (setChannel c { returned s.gas.channels[c] with
      state := s.gas.channels[c].state } s))) := rfl

/-- The channel is as it returned, in TARE_WAIT or already in TARE. -/
theorem getElem_returnToService (c : ChannelNo) (s : State) :
    (returnToService c s).gas.channels[c] = returned s.gas.channels[c]
      ∨ (returnToService c s).gas.channels[c] = tareEntered (returned s.gas.channels[c]) := by
  have queued (u : State) : (reportChannel c (queueTare c (setChannel c { returned s.gas.channels[c] with
      state := s.gas.channels[c].state } u))).gas.channels[c] = returned s.gas.channels[c] := by
    rw [reportChannel_gas, getElem_queueTare_self, getElem_setChannel_self]
    rfl
  rw [returnToService_eq]
  exact (getElem_tareStart c _).imp (·.trans (queued s)) (·.trans (congrArg tareEntered (queued s)))

theorem returnToService_tareQueue (c : ChannelNo) (s : State) :
    (returnToService c s).gas.tareQueue = if c ∈ s.gas.tareQueue then s.gas.tareQueue else s.gas.tareQueue ++ [c] := by
  rw [returnToService_eq, tareStart_tareQueue, reportChannel_gas]
  rfl

/-! ### The request -/

theorem actionOnOf_of_neither (not_off : action ≠ 1) (not_on : action ≠ 2) : actionOnOf action = none :=
  choiceOf_of_neither not_off not_on

theorem ownSetChannel_of_barred (barred : barredOnService port s = true) :
    ownSetChannel port channel action s = refuse .wrongState 0 s := if_pos barred

section Allowed

variable (allowed : barredOnService port s = false)
include allowed

theorem ownSetChannel_of_allowed :
    ownSetChannel port channel action s
      = match channelOf channel, actionOnOf action with
        | none, _ => refuse .badValue 1 s
        | some _, none => refuse .badValue 2 s
        | some c, some on =>
          accept (fun s => [n8 c, n8 (codeChannelState s.gas.channels[c].state), flag8 s.gas.channels[c].offPending])
            (if on then switchOn c s else switchOff c s) := if_neg (Bool.eq_false_iff.mp allowed)

theorem ownSetChannel_of_bad_channel (beyond : 4 ≤ channel.toNat) :
    ownSetChannel port channel action s = refuse .badValue 1 s := by
  rw [ownSetChannel_of_allowed allowed, channelOf_of_ge beyond]

theorem ownSetChannel_of_bad_action (not_off : action ≠ 1) (not_on : action ≠ 2) :
    ownSetChannel port (n8 c) action s = refuse .badValue 2 s := by
  rw [ownSetChannel_of_allowed allowed, channelOf_n8, actionOnOf_of_neither not_off not_on]

theorem ownSetChannel_off :
    ownSetChannel port (n8 c) 1 s = accept (fun s => [n8 c, n8 (codeChannelState s.gas.channels[c].state),
      flag8 s.gas.channels[c].offPending]) (switchOff c s) := by
  rw [ownSetChannel_of_allowed allowed, channelOf_n8]
  rfl

theorem ownSetChannel_on :
    ownSetChannel port (n8 c) 2 s = accept (fun s => [n8 c, n8 (codeChannelState s.gas.channels[c].state),
      flag8 s.gas.channels[c].offPending]) (switchOn c s) := by
  rw [ownSetChannel_of_allowed allowed, channelOf_n8]
  rfl

end Allowed

theorem exec_setChannel (free : freePort port s = true) :
    let f : Frame := { kind := 0x19, tag := tag, body := [channel, action] }
    let handled := ownSetChannel port channel action (atOwner port f s)
    exec (.setChannel port tag channel action) s = answered port f handled.2 handled.1 :=
  receiveFrame_of_carried (f := { kind := 0x19, tag := tag, body := [channel, action] }) rfl (.inr rfl) free

/-- Settles O52: the action and the state of the channel decide, by one lemma for each pair. -/
theorem setChannelActsByChannelState : Obligations.SetChannelActsByChannelState := by
  unfold Obligations.SetChannelActsByChannelState
  intro port tag c s free once ch f u done
  have request (channel action : Byte) := exec_setChannel (tag := tag) (channel := channel) (action := action) free
  have owner_gas (f : Frame) : (atOwner port f s).gas = s.gas := atOwner_gas port f s
  have owner_state (f : Frame) : (atOwner port f s).line.state = s.line.state := atOwner_lineState port f s
  refine ⟨fun service moving action => ?barred, fun permitted => ?allowed⟩
  case barred =>
    rw [request, ownSetChannel_of_barred (barredOnService_of_service service (by rw [owner_state]; exact moving))]
    rfl
  case allowed =>
    have allowed (f : Frame) : barredOnService port (atOwner port f s) = false :=
      barredOnService_of_allowed (by rw [owner_state]; exact permitted)
    have switched_off : done 1 (switchOff c (u 1)) := by
      dsimp only [done]
      rw [request, ownSetChannel_off (allowed _)]
      rfl
    have switched_on : done 2 (switchOn c (u 2)) := by
      dsimp only [done]
      rw [request, ownSetChannel_on (allowed _)]
      rfl
    refine ⟨fun channel action beyond => ?badChannel, fun action not_off not_on => ?badAction,
      fun state => ⟨?stays, switchOff c (u 1), switched_off, ?off⟩, fun state => ⟨?pending, ?resumes⟩,
      fun state => ⟨?out, switchOn c (u 2), switched_on, ?returns⟩⟩
    case badChannel =>
      intro bad
      rw [request, ownSetChannel_of_bad_channel (allowed _) beyond]
      rfl
    case badAction =>
      rw [request, ownSetChannel_of_bad_action (allowed _) not_off not_on]
      rfl
    case stays =>
      rw [switchOn_of_ready (by rw [owner_gas]; exact state)] at switched_on
      exact switched_on
    case off =>
      rw [switchOff_of_ready (by rw [owner_gas]; exact state), getElem_enterOff_self (by rw [owner_gas]; exact once),
        enterOff_eq_outOfService, outOfService_tareQueue, owner_gas]
      exact ⟨rfl, rfl⟩
    case pending =>
      rw [switchOff_of_busy (by rw [owner_gas]; exact state), owner_gas] at switched_off
      exact switched_off
    case resumes =>
      rw [switchOn_of_busy (by rw [owner_gas]; exact state), owner_gas] at switched_on
      exact switched_on
    case out =>
      rw [switchOff_of_out (by rw [owner_gas]; exact state)] at switched_off
      exact switched_off
    case returns =>
      have shows := getElem_returnToService c (u 2)
      rw [switchOn_of_out (by rw [owner_gas]; exact state), returnToService_tareQueue]
      rw [owner_gas] at shows ⊢
      rcases shows with waits | tares
      · rw [waits]
        exact ⟨.inl rfl, rfl, rfl, rfl, rfl, rfl, rfl, rfl, rfl, rfl⟩
      · rw [tares]
        exact ⟨.inr rfl, rfl, rfl, rfl, rfl, rfl, rfl, rfl, rfl, rfl⟩

end Sys2Proof.Machine
end

section
/-! PROOF. R61, R167: SET_CONFIG, and the tares that fall due with it. -/

namespace Sys2Proof.Machine

variable {s t u : State} {c d : ChannelNo} {l : List ChannelNo}

/-! ### One channel compared with the new intervals (R61) -/

/-- An IDLE channel that meets a tare interval of the configuration. -/
abbrev MeetsTare (k : MachineConfig) (g : GasUnit) (d : ChannelNo) : Prop :=
  g.channels[d].state = .idle
    ∧ (k.tareIntervalCount ≤ g.channels[d].chargesSinceTare ∨ k.tareIntervalTime * 1000000 ≤ g.channels[d].timeSinceTare)

theorem recheckTare_of_not_meets (short : ¬ MeetsTare s.config s.gas c) : recheckTare c s = s := if_neg short

theorem recheckTare_of_meets (meets : MeetsTare s.config s.gas c) :
    recheckTare c s = tareStart (queueTare c (setChannel c { s.gas.channels[c] with tareDue := true } s)) := by
  refine (if_pos meets).trans (if_pos ?_)
  rw [modifyChannel, getElem_setChannel_self]
  exact meets.1

/-- What the comparison writes at most: channels and the tare queue. -/
def TaresOnly (s t : State) : Prop :=
  t = { s with gas := { s.gas with channels := t.gas.channels, tareQueue := t.gas.tareQueue } }

theorem TaresOnly.trans (h : TaresOnly s t) (k : TaresOnly t u) : TaresOnly s u := by
  unfold TaresOnly at *
  rw [k, h]

theorem TaresOnly.config (h : TaresOnly s t) : t.config = s.config := by rw [h]

theorem recheckTare_taresOnly (c : ChannelNo) (s : State) : TaresOnly s (recheckTare c s) := by
  by_cases meets : MeetsTare s.config s.gas c
  · rw [recheckTare_of_meets meets]
    unfold TaresOnly
    rw [tareStart_eq]
    rfl
  · rw [recheckTare_of_not_meets meets]
    rfl

theorem recheckTare_tareQueue (c : ChannelNo) (s : State) :
    (recheckTare c s).gas.tareQueue
      = if MeetsTare s.config s.gas c ∧ c ∉ s.gas.tareQueue then s.gas.tareQueue ++ [c] else s.gas.tareQueue := by
  by_cases meets : MeetsTare s.config s.gas c
  · rw [recheckTare_of_meets meets, tareStart_queueTare_tareQueue]
    change (if c ∈ s.gas.tareQueue then s.gas.tareQueue else s.gas.tareQueue ++ [c]) = _
    by_cases queued : c ∈ s.gas.tareQueue
    · rw [if_pos queued, if_neg fun both => both.2 queued]
    · rw [if_neg queued, if_pos ⟨meets, queued⟩]
  · rw [recheckTare_of_not_meets meets, if_neg fun both => meets both.1]

/-- A channel outside the queue is not touched by the comparison of another. -/
theorem getElem_recheckTare_ne (ne : c ≠ d) (out : d ∉ s.gas.tareQueue) :
    (recheckTare c s).gas.channels[d] = s.gas.channels[d] := by
  by_cases meets : MeetsTare s.config s.gas c
  · have not_queued : d ∉ (queueTare c (setChannel c { s.gas.channels[c] with tareDue := true } s)).gas.tareQueue := by
      change d ∉ (if c ∈ s.gas.tareQueue then s.gas.tareQueue else s.gas.tareQueue ++ [c])
      split
      · exact out
      · exact fun mem => (List.mem_append.mp mem).elim out fun last => ne (List.mem_singleton.mp last).symm
    rw [recheckTare_of_meets meets, getElem_tareStart_of_not_mem not_queued, getElem_queueTare_ne ne, getElem_setChannel_ne ne]
  · rw [recheckTare_of_not_meets meets]

/-- While a channel is in TARE, no other one starts (R62), so it is the channel compared alone that changes. -/
theorem tareStart_of_tare (tare : s.gas.channels[d].state = .tare) : tareStart s = s := by
  have some_tare : s.gas.channels.toList.any (·.state = .tare) = true :=
    List.any_eq_true.mpr ⟨s.gas.channels[d], Vector.mem_toList_iff.mpr (Vector.getElem_mem d.isLt), decide_eq_true tare⟩
  unfold tareStart
  split
  · exact if_pos some_tare
  · rfl

theorem getElem_recheckTare_of_tare (tare : s.gas.channels[d].state = .tare) :
    (recheckTare c s).gas.channels[d] = s.gas.channels[d] := by
  by_cases meets : MeetsTare s.config s.gas c
  · have ne : c ≠ d := by
      rintro rfl
      exact absurd (tare.symm.trans meets.1) (by decide)
    have kept : (queueTare c (setChannel c { s.gas.channels[c] with tareDue := true } s)).gas.channels[d] = s.gas.channels[d] := by
      rw [getElem_queueTare_ne ne, getElem_setChannel_ne ne]
    rw [recheckTare_of_meets meets, tareStart_of_tare (by rw [kept]; exact tare), kept]
  · rw [recheckTare_of_not_meets meets]

/-- A channel that is due and has left IDLE for its tare. -/
abbrev AwaitsTare (ch : Channel) : Prop := ch.tareDue = true ∧ (ch.state = .tareWait ∨ ch.state = .tare)

theorem recheckTare_awaits (meets : MeetsTare s.config s.gas c) : AwaitsTare (recheckTare c s).gas.channels[c] := by
  obtain ⟨state, due, -⟩ := tareStart_queueTare c (setChannel c { s.gas.channels[c] with tareDue := true } s)
  rw [getElem_setChannel_self] at due
  rw [recheckTare_of_meets meets]
  exact ⟨due, state⟩

theorem AwaitsTare.recheckTare (awaits : AwaitsTare s.gas.channels[d]) (c : ChannelNo) :
    AwaitsTare (recheckTare c s).gas.channels[d] := by
  by_cases meets : MeetsTare s.config s.gas c
  · have ne : c ≠ d := by
      rintro rfl
      rcases awaits.2 with waits | tares
      · exact absurd (waits.symm.trans meets.1) (by decide)
      · exact absurd (tares.symm.trans meets.1) (by decide)
    rw [recheckTare_of_meets meets]
    rcases getElem_tareStart d (queueTare c (setChannel c { s.gas.channels[c] with tareDue := true } s)) with same | entered
    · rw [same, getElem_queueTare_ne ne, getElem_setChannel_ne ne]
      exact awaits
    · rw [entered, getElem_queueTare_ne ne, getElem_setChannel_ne ne]
      exact ⟨awaits.1, .inr rfl⟩
  · rw [recheckTare_of_not_meets meets]
    exact awaits

/-! ### Every channel in its turn -/

/-- The channels of a list compared with the intervals in force. -/
def rechecks (l : List ChannelNo) (s : State) : State := l.foldl (fun s c => recheckTare c s) s

theorem rechecks_cons (c : ChannelNo) (l : List ChannelNo) (s : State) :
    rechecks (c :: l) s = rechecks l (recheckTare c s) := rfl

theorem rechecks_taresOnly (l : List ChannelNo) (s : State) : TaresOnly s (rechecks l s) :=
  List.foldlRecOn (motive := TaresOnly s) _ _ rfl fun t only c _ => only.trans (recheckTare_taresOnly c t)

/-- The turn of one channel leaves open what another one outside the queue meets. -/
theorem meetsTare_recheckTare (ne : c ≠ d) :
    (MeetsTare (recheckTare c s).config (recheckTare c s).gas d ∧ d ∉ (recheckTare c s).gas.tareQueue)
      ↔ (MeetsTare s.config s.gas d ∧ d ∉ s.gas.tareQueue) := by
  have queue : d ∈ (recheckTare c s).gas.tareQueue ↔ d ∈ s.gas.tareQueue := by
    rw [recheckTare_tareQueue]
    split
    · rw [List.mem_append, List.mem_singleton]
      exact or_iff_left ne.symm
    · rfl
  rw [queue]
  refine and_congr_left fun out => ?_
  unfold MeetsTare
  rw [getElem_recheckTare_ne ne out, (recheckTare_taresOnly c s).config]

theorem rechecks_tareQueue (once : l.Nodup) (s : State) :
    (rechecks l s).gas.tareQueue
      = s.gas.tareQueue ++ l.filter fun d => MeetsTare s.config s.gas d ∧ d ∉ s.gas.tareQueue := by
  induction l generalizing s with
  | nil => exact (List.append_nil _).symm
  | cons c l ih =>
    obtain ⟨out, once⟩ := List.nodup_cons.mp once
    have later : (l.filter fun d => MeetsTare (recheckTare c s).config (recheckTare c s).gas d ∧ d ∉ (recheckTare c s).gas.tareQueue)
        = l.filter fun d => MeetsTare s.config s.gas d ∧ d ∉ s.gas.tareQueue :=
      List.filter_congr fun d mem => decide_eq_decide.mpr (meetsTare_recheckTare fun same : c = d => out (same ▸ mem))
    rw [rechecks_cons, ih once, later, recheckTare_tareQueue, List.filter_cons]
    by_cases joins : MeetsTare s.config s.gas c ∧ c ∉ s.gas.tareQueue
    · rw [if_pos joins, if_pos (decide_eq_true joins), List.append_assoc]
      rfl
    · rw [if_neg joins, if_neg fun holds => joins (of_decide_eq_true holds)]

theorem getElem_rechecks_of_tare (tare : s.gas.channels[d].state = .tare) :
    (rechecks l s).gas.channels[d] = s.gas.channels[d] := by
  induction l generalizing s with
  | nil => rfl
  | cons c l ih =>
    have kept := getElem_recheckTare_of_tare (c := c) tare
    rw [rechecks_cons, ih (by rw [kept]; exact tare), kept]

/-- A channel outside the queue that meets no interval stays as it is. -/
theorem getElem_rechecks_of_short (short : ¬ MeetsTare s.config s.gas d) (out : d ∉ s.gas.tareQueue) :
    (rechecks l s).gas.channels[d] = s.gas.channels[d] := by
  induction l generalizing s with
  | nil => rfl
  | cons c l ih =>
    rw [rechecks_cons]
    by_cases same : c = d
    · subst same
      rw [recheckTare_of_not_meets short, ih short out]
    · have kept := getElem_recheckTare_ne same out
      have queue : d ∉ (recheckTare c s).gas.tareQueue := by
        rw [recheckTare_tareQueue]
        split
        · exact fun mem => (List.mem_append.mp mem).elim out fun last => same (List.mem_singleton.mp last).symm
        · exact out
      have still : ¬ MeetsTare (recheckTare c s).config (recheckTare c s).gas d :=
        fun meets => short ((meetsTare_recheckTare same).mp ⟨meets, queue⟩).1
      rw [ih still queue, kept]

theorem AwaitsTare.rechecks (awaits : AwaitsTare s.gas.channels[d]) (l : List ChannelNo) :
    AwaitsTare (rechecks l s).gas.channels[d] := by
  induction l generalizing s with
  | nil => exact awaits
  | cons c l ih => exact ih (awaits.recheckTare c)

/-- A channel outside the queue that meets an interval awaits its tare after its turn. -/
theorem rechecks_awaits (meets : MeetsTare s.config s.gas d) (out : d ∉ s.gas.tareQueue) (mem : d ∈ l) :
    AwaitsTare (rechecks l s).gas.channels[d] := by
  induction l generalizing s with
  | nil => cases mem
  | cons c l ih =>
    rw [rechecks_cons]
    by_cases same : c = d
    · subst same
      exact (recheckTare_awaits meets).rechecks l
    · obtain ⟨meets, out⟩ := (meetsTare_recheckTare same).mpr ⟨meets, out⟩
      exact ih meets out ((List.mem_cons.mp mem).resolve_left (Ne.symm same))

end Sys2Proof.Machine
end

section
/-! PROOF. R167: SET_CONFIG replaces the configuration whole. -/

namespace Sys2Proof.Machine

variable {s t : State} {k : MachineConfig} {w : ConfigWire} {tag : Byte}

/-! ### The refusals -/

section Refusals

theorem configRefusal_of_field {field : Nat} (bad : configBadField k = some field) : configRefusal k s = some field := by
  unfold configRefusal
  rw [bad]

variable (inRange : configBadField k = none)
include inRange

theorem configRefusal_of_limit (below : k.retirementLimit < s.retirements.length) : configRefusal k s = some 3 := by
  unfold configRefusal
  rw [inRange]
  exact if_pos below

variable (room : s.retirements.length ≤ k.retirementLimit)
include room

theorem configRefusal_of_room :
    configRefusal k s
      = if s.trail.entries ≠ [] ∧ k.gateDistance ≠ s.config.gateDistance then some 1
        else if s.trail.entries ≠ [] ∧ k.weigherDistance ≠ s.config.weigherDistance then some 2
        else none := by
  unfold configRefusal
  rw [inRange]
  exact if_neg (Nat.not_lt.mpr room)

theorem configRefusal_of_gate (entries : s.trail.entries ≠ []) (gate : k.gateDistance ≠ s.config.gateDistance) :
    configRefusal k s = some 1 := by
  rw [configRefusal_of_room inRange room]
  exact if_pos ⟨entries, gate⟩

theorem configRefusal_of_weigher (entries : s.trail.entries ≠ []) (gate : k.gateDistance = s.config.gateDistance)
    (weigher : k.weigherDistance ≠ s.config.weigherDistance) : configRefusal k s = some 2 := by
  rw [configRefusal_of_room inRange room]
  exact (if_neg fun both => both.2 gate).trans (if_pos ⟨entries, weigher⟩)

theorem configRefusal_of_good (same : s.trail.entries = [] ∨ (k.gateDistance = s.config.gateDistance
    ∧ k.weigherDistance = s.config.weigherDistance)) : configRefusal k s = none := by
  rw [configRefusal_of_room inRange room]
  refine (if_neg fun both => ?_).trans (if_neg fun both => ?_)
  · exact same.elim both.1 fun distances => both.2 distances.1
  · exact same.elim both.1 fun distances => both.2 distances.2

end Refusals

theorem ownSetConfig_of_moving (moving : s.line.state ≠ .stopped) : ownSetConfig w s = refuse .wrongState 0 s :=
  if_pos moving

theorem ownSetConfig_of_refused {field : Nat} (stopped : s.line.state = .stopped)
    (refused : configRefusal (configOf w) s = some field) : ownSetConfig w s = refuse .badValue field s := by
  unfold ownSetConfig
  rw [if_neg (not_not.mpr stopped), refused]

theorem ownSetConfig_of_good (stopped : s.line.state = .stopped) (good : configRefusal (configOf w) s = none) :
    ownSetConfig w s = accept (fun s => configBytes (configWireOf s.config)) (applyConfig (configOf w) s) := by
  unfold ownSetConfig
  rw [if_neg (not_not.mpr stopped), good]

/-! ### The configuration applied -/

/-- The values of a configuration are those of its bytes. -/
theorem configWireOf_configOf (w : ConfigWire) : configWireOf (configOf w) = w := by
  unfold configWireOf configOf n8
  simp only [ofNat_toNat_same]

/-- The recipe part of the ceiling is read from lots and recipes. -/
theorem recipeCeiling_congr (lots : t.lots = s.lots) (recipes : t.recipes = s.recipes) :
    recipeCeiling t = recipeCeiling s := by
  unfold recipeCeiling slotPitch activeSlot closingSlot isSwitching recipeIn
  rw [lots, recipes]

/-- The comparison of every channel, in number order. -/
def tareRechecked (k : MachineConfig) (s : State) : State := rechecks (List.finRange 4) { s with config := k }

theorem tareRechecked_eq (k : MachineConfig) (s : State) :
    tareRechecked k s = { s with
      config := k,
      gas := { s.gas with channels := (tareRechecked k s).gas.channels, tareQueue := (tareRechecked k s).gas.tareQueue } } := by
  unfold tareRechecked
  generalize List.finRange 4 = l
  exact rechecks_taresOnly l { s with config := k }

theorem applyConfig_eq (k : MachineConfig) (s : State) :
    applyConfig k s = { tareRechecked k s with
      position := { s.position with speedCeiling := ceilingOf (tareRechecked k s) },
      line := { s.line with stage := 0, quietTimer := if k.quietTime = 0 then none else some k.quietTime } } := by
  change restartSupervision (refreshCeiling (tareRechecked k s)) = _
  unfold restartSupervision refreshCeiling
  rw [tareRechecked_eq]

theorem ceilingOf_tareRechecked (safe : s.line.safe = true) :
    ceilingOf (tareRechecked k s) = max (recipeCeiling s) k.safeCeiling := by
  have recipe : recipeCeiling (tareRechecked k s) = recipeCeiling s :=
    recipeCeiling_congr (by rw [tareRechecked_eq]) (by rw [tareRechecked_eq])
  have line : (tareRechecked k s).line = s.line := by rw [tareRechecked_eq]
  have config : (tareRechecked k s).config = k := by rw [tareRechecked_eq]
  unfold ceilingOf
  rw [recipe, line, config, if_pos safe]

theorem tareRechecked_tareQueue (k : MachineConfig) (s : State) :
    (tareRechecked k s).gas.tareQueue
      = s.gas.tareQueue ++ (List.finRange 4).filter fun d => MeetsTare k s.gas d ∧ d ∉ s.gas.tareQueue := by
  have once := List.nodup_finRange 4
  unfold tareRechecked
  generalize List.finRange 4 = l at once ⊢
  exact rechecks_tareQueue once { s with config := k }

/-- What becomes of a channel that the tare queue does not hold. -/
theorem tareRechecked_channel (d : ChannelNo) :
    (MeetsTare k s.gas d → d ∉ s.gas.tareQueue → AwaitsTare (tareRechecked k s).gas.channels[d])
      ∧ (¬ MeetsTare k s.gas d → d ∉ s.gas.tareQueue ∨ s.gas.channels[d].state = .tare →
          (tareRechecked k s).gas.channels[d] = s.gas.channels[d]) := by
  have mem := List.mem_finRange d
  unfold tareRechecked
  generalize List.finRange 4 = l at mem ⊢
  refine ⟨fun meets out => rechecks_awaits (s := { s with config := k }) meets out mem, fun short apart => ?_⟩
  rcases apart with out | tare
  · exact getElem_rechecks_of_short (s := { s with config := k }) short out
  · exact getElem_rechecks_of_tare (s := { s with config := k }) tare

theorem applyConfig_gas (k : MachineConfig) (s : State) : (applyConfig k s).gas = (tareRechecked k s).gas := by
  rw [applyConfig_eq]

theorem exec_setConfig (free : freePort .line s = true) :
    let f : Frame := { kind := 0x08, tag := tag, body := configBytes w }
    let handled := ownSetConfig w (atOwner .line f s)
    exec (.setConfig .line tag w) s = answered .line f handled.2 handled.1 := by
  have carried := receiveFrame_of_carried (f := { kind := 0x08, tag := tag, body := configBytes w }) rfl (.inl rfl) free
  have owner (u : State) : handToOwner .line { kind := 0x08, tag := tag, body := configBytes w } u = ownSetConfig w u :=
    congrArg (ownSetConfig · u) (configAt_configBytes w)
  rw [owner] at carried
  exact carried

/-- Settles O47: the checks of `configRefusal` in their order, and the effect of `applyConfig` at the blocks. -/
theorem setConfigReplacesTheConfigurationWhole : Obligations.SetConfigReplacesTheConfigurationWhole := by
  unfold Obligations.SetConfigReplacesTheConfigurationWhole
  intro tag w s free f new
  have request := exec_setConfig (w := w) (tag := tag) free
  have owner_state : (atOwner .line f s).line.state = s.line.state := atOwner_lineState .line f s
  have owner_retirements : (atOwner .line f s).retirements = s.retirements := atOwner_retirements .line f s
  have owner_trail : (atOwner .line f s).trail = s.trail := atOwner_trail .line f s
  have owner_config : (atOwner .line f s).config = s.config := atOwner_config .line f s
  have refused {field : Nat} (stopped : s.line.state = .stopped)
      (refusal : configRefusal new (atOwner .line f s) = some field) :
      exec (.setConfig .line tag w) s = answered .line f (.refused .badValue field) (atOwner .line f s) := by
    rw [request, ownSetConfig_of_refused (owner_state.trans stopped) refusal]
    rfl
  refine ⟨fun moving => ?moving, fun field stopped bad => refused stopped (configRefusal_of_field bad),
    fun stopped inRange below => refused stopped (configRefusal_of_limit inRange (by rw [owner_retirements]; exact below)),
    fun stopped inRange room entries => ⟨fun gate => ?gate, fun gate weigher => ?weigher⟩,
    fun stopped inRange room same => ⟨applyConfig new (atOwner .line f s), ?request, ?applied⟩⟩
  case moving =>
    rw [request, ownSetConfig_of_moving (by rw [owner_state]; exact moving)]
    rfl
  case gate =>
    refine refused stopped (configRefusal_of_gate inRange ?_ ?_ ?_)
    · rw [owner_retirements]; exact room
    · rw [owner_trail]; exact entries
    · rw [owner_config]; exact gate
  case weigher =>
    refine refused stopped (configRefusal_of_weigher inRange ?_ ?_ ?_ ?_)
    · rw [owner_retirements]; exact room
    · rw [owner_trail]; exact entries
    · rw [owner_config]; exact gate
    · rw [owner_config]; exact weigher
  case request =>
    have good : configRefusal new (atOwner .line f s) = none :=
      configRefusal_of_good inRange (by rw [owner_retirements]; exact room) (by rw [owner_trail, owner_config]; exact same)
    have config : (applyConfig new (atOwner .line f s)).config = new := by rw [applyConfig_eq, tareRechecked_eq]
    rw [request, ownSetConfig_of_good (owner_state.trans stopped) good]
    unfold accept
    dsimp only
    rw [config, configWireOf_configOf]
  case applied =>
    have ceiling (safe : s.line.safe = true) :
        ceilingOf (tareRechecked new (atOwner .line f s)) = max (recipeCeiling s) new.safeCeiling := by
      rw [ceilingOf_tareRechecked (by rw [atOwner_safe]; exact safe),
        recipeCeiling_congr (atOwner_lots .line f s) (atOwner_recipes .line f s)]
    have queue := tareRechecked_tareQueue new (atOwner .line f s)
    have channel (d : ChannelNo) := tareRechecked_channel (k := new) (s := atOwner .line f s) d
    have gas := applyConfig_gas new (atOwner .line f s)
    have applied := applyConfig_eq new (atOwner .line f s)
    have tares := tareRechecked_eq new (atOwner .line f s)
    rw [atOwner_gas] at queue channel
    generalize tareRechecked new (atOwner .line f s) = v at *
    generalize applyConfig new (atOwner .line f s) = t at *
    rw [tares] at applied
    have line : t.line.state = .stopped := by rw [applied]; exact owner_state.trans stopped
    refine ⟨?_, ?_, ?_, ?_, ?_, ?_, ?_, line, ?_, ?_, fun safe => ?_, ?_, ?_, fun d => ⟨fun meets out => ?_, fun short apart => ?_⟩⟩
    · rw [applied]
    · rw [applied, atOwner_trail]
    · rw [applied, atOwner_pockets]
    · rw [applied, atOwner_heads]
    · rw [applied, atOwner_lots]
    · rw [applied, atOwner_recipes]
    · rw [applied, atOwner_trace]
    · rw [applied]
    · rw [applied]
    · rw [applied, ← tares]
      exact ceiling safe
    · rw [applied, atOwner_gas]
    · rw [gas, queue]
    · rw [gas]
      exact (channel d).1 meets out
    · rw [gas]
      exact (channel d).2 short apart

end Sys2Proof.Machine
end

section
/-! PROOF. R131 to R138: the requests that write and reserve a recipe slot. -/

namespace Sys2Proof.Machine

variable {port : Port} {tag : Byte} {slot : SlotNo} {w : RecipeWire} {s : State}

/-! ### A write (R134) -/

/-- Slots and reservations after a write. -/
def recipesStored (slot : SlotNo) (r : Recipe) (v : RecipeStore) : RecipeStore :=
  { slots := v.slots.set slot { generation := v.slots[slot].generation + 1, content := some r },
    lineReservation := dropReservation slot v.lineReservation,
    serviceReservation := dropReservation slot v.serviceReservation }

/-- Lots that stay where they are through a refresh of the slots. -/
theorem refreshSlots_lots (s : State) : (refreshSlots s).lots = s.lots := by
  have judged (u : State) : (evaluateSupply u).lots = u.lots := by
    unfold evaluateSupply
    dsimp only
    split
    · rfl
    · split
      · rw [grantSearch_eq, sendReport_lots]
      · rw [sendReport_lots]
  unfold refreshSlots
  rw [judged]
  rfl

/-- A write changes the store, and where the slot is the active one, what the refresh of the slots changes. -/
theorem storeRecipe_counted (slot : SlotNo) (r : Recipe) (s : State) :
    Counted { s with recipes := recipesStored slot r s.recipes } (storeRecipe slot r s)
      ∧ (storeRecipe slot r s).lots = s.lots := by
  unfold storeRecipe
  dsimp only
  split
  · exact ⟨refreshSlots_counted _, refreshSlots_lots _⟩
  · exact ⟨Counted.refl _, rfl⟩

theorem storeRecipe_recipes (slot : SlotNo) (r : Recipe) (s : State) :
    (storeRecipe slot r s).recipes = recipesStored slot r s.recipes := by
  rw [(storeRecipe_counted slot r s).1.elsewhere]

theorem storeRecipe_rest (slot : SlotNo) (r : Recipe) (s : State) :
    (storeRecipe slot r s).lots = s.lots ∧ (storeRecipe slot r s).trail = s.trail
      ∧ (storeRecipe slot r s).trace = s.trace ∧ (storeRecipe slot r s).heads = s.heads := by
  obtain ⟨counted, lots⟩ := storeRecipe_counted slot r s
  refine ⟨lots, ?_, ?_, ?_⟩ <;> rw [counted.elsewhere]

theorem generationOf_storeRecipe (slot : SlotNo) (r : Recipe) (s : State) :
    generationOf slot (storeRecipe slot r s) = generationOf slot s + 1 := by
  unfold generationOf
  rw [storeRecipe_recipes]
  exact congrArg RecipeSlot.generation (Vector.getElem_set_self slot.isLt)

/-! ### The checks of a write -/

theorem writeChecked_of_used (used : slotInUse slot s = true) : writeChecked slot w s = refuse .slotInUse 0 s :=
  if_pos used

theorem writeChecked_of_field {field : Nat} (unused : slotInUse slot s = false) (bad : recipeBadField w = some field) :
    writeChecked slot w s = refuse .badValue field s := by
  unfold writeChecked
  rw [if_neg (by rw [unused]; exact nofun), bad]

theorem writeChecked_of_good (unused : slotInUse slot s = false) (good : recipeBadField w = none) :
    writeChecked slot w s = (storeRecipe slot (recipeOf w) s, .accepted (n8 slot :: le16 (generationOf slot s + 1))) := by
  unfold writeChecked
  rw [if_neg (by rw [unused]; exact nofun), good]
  exact Prod.ext rfl (by rw [← generationOf_storeRecipe slot (recipeOf w)]; rfl)

theorem ownWriteRecipe_n8 : ownWriteRecipe (n8 slot) w s = writeChecked slot w s := by
  unfold ownWriteRecipe
  rw [slotOf_n8]

theorem ownWriteRecipeReserved_of_held (held : holdsReservation port slot s = true) :
    ownWriteRecipeReserved port (n8 slot) w s = writeChecked slot w s := by
  unfold ownWriteRecipeReserved
  rw [slotOf_n8]
  exact if_pos held

theorem ownWriteRecipeReserved_of_lost (lost : holdsReservation port slot s = false) :
    ownWriteRecipeReserved port (n8 slot) w s = refuse .lostReservation 0 s := by
  unfold ownWriteRecipeReserved
  rw [slotOf_n8]
  exact if_neg (by rw [lost]; exact nofun)

/-! ### A reservation (R136) -/

theorem reserve_eq (port : Port) (slot : SlotNo) (s : State) :
    reserve port slot s = { s with recipes := (reserve port slot s).recipes } := by cases port <;> rfl

theorem reserve_slots (port : Port) (slot : SlotNo) (s : State) :
    (reserve port slot s).recipes.slots = s.recipes.slots := by cases port <;> rfl

theorem reservationOf_reserve_self (port : Port) (slot : SlotNo) (s : State) :
    reservationOf port (reserve port slot s) = some { slot := slot, generation := generationOf slot s } := by
  cases port <;> rfl

theorem reservationOf_reserve_ne {q : Port} (ne : q ≠ port) (slot : SlotNo) (s : State) :
    reservationOf q (reserve port slot s) = reservationOf q s := by
  cases port with
  | line =>
    cases q with
    | line => exact absurd rfl ne
    | service => rfl
  | service =>
    cases q with
    | line => rfl
    | service => exact absurd rfl ne

theorem slotInUse_reserve (port : Port) (slot q : SlotNo) (s : State) :
    slotInUse q (reserve port slot s) = slotInUse q s := by cases port <;> rfl

theorem codeSlotState_eq (slot : SlotNo) (s : State) :
    codeSlotState s.recipes.slots[slot] = if recipeIn slot s = none then 1 else 2 := by
  unfold codeSlotState recipeIn
  cases s.recipes.slots[slot].content <;> rfl

/-- RESERVE_RECIPE replies with the slot as it stands, which a reservation does not change. -/
theorem ownReserveRecipe_n8 :
    ownReserveRecipe port (n8 slot) s
      = (reserve port slot s, .accepted ([n8 slot, n8 (if recipeIn slot s = none then 1 else 2)] ++ le16 (generationOf slot s)
          ++ [flag8 (slotInUse slot s)])) := by
  unfold ownReserveRecipe
  rw [slotOf_n8]
  refine Prod.ext rfl ?_
  change Answer.accepted ([n8 slot, n8 (codeSlotState (reserve port slot s).recipes.slots[slot])]
    ++ le16 (reserve port slot s).recipes.slots[slot].generation ++ [flag8 (slotInUse slot (reserve port slot s))]) = _
  rw [slotInUse_reserve, reserve_slots, codeSlotState_eq]
  rfl

/-! ### The requests at their owner -/

theorem slotInUse_atOwner (port : Port) (f : Frame) (slot : SlotNo) (s : State) :
    slotInUse slot (atOwner port f s) = slotInUse slot s := by
  unfold slotInUse activeSlot
  rw [atOwner_lots, atOwner_pockets, atOwner_trail, atOwner_lineState]

theorem generationOf_atOwner (port : Port) (f : Frame) (slot : SlotNo) (s : State) :
    generationOf slot (atOwner port f s) = generationOf slot s := by
  unfold generationOf
  rw [atOwner_recipes]

theorem reservationOf_atOwner (port q : Port) (f : Frame) (s : State) :
    reservationOf q (atOwner port f s) = reservationOf q s := by
  unfold reservationOf
  rw [atOwner_recipes]

theorem holdsReservation_atOwner (port : Port) (f : Frame) (slot : SlotNo) (s : State) :
    holdsReservation port slot (atOwner port f s)
      = decide (reservationOf port s = some { slot := slot, generation := generationOf slot s }) := by
  unfold holdsReservation
  rw [reservationOf_atOwner, generationOf_atOwner]

theorem exec_writeRecipe {slotIn : Byte} (free : freePort .line s = true) :
    let f : Frame := { kind := 0x0B, tag := tag, body := slotIn :: recipeBytes w }
    let handled := ownWriteRecipe slotIn w (atOwner .line f s)
    exec (.writeRecipe .line tag slotIn w) s = answered .line f handled.2 handled.1 := by
  intro f
  have known : bodyLength f.kind = some f.body.length := by
    change some 66 = some (slotIn :: recipeBytes w).length
    rw [List.length_cons, length_recipeBytes]
  have carried := receiveFrame_of_carried known (.inl rfl) free
  have owner (u : State) : handToOwner .line f u = ownWriteRecipe slotIn w u :=
    congrArg (ownWriteRecipe slotIn · u) (recipeAt_recipeBytes slotIn w)
  rw [owner] at carried
  exact carried

theorem exec_writeRecipeReserved {slotIn : Byte} (free : freePort port s = true) :
    let f : Frame := { kind := 0x0D, tag := tag, body := slotIn :: recipeBytes w }
    let handled := ownWriteRecipeReserved port slotIn w (atOwner port f s)
    exec (.writeRecipeReserved port tag slotIn w) s = answered port f handled.2 handled.1 := by
  intro f
  have known : bodyLength f.kind = some f.body.length := by
    change some 66 = some (slotIn :: recipeBytes w).length
    rw [List.length_cons, length_recipeBytes]
  have carried := receiveFrame_of_carried known (.inr rfl) free
  have owner (u : State) : handToOwner port f u = ownWriteRecipeReserved port slotIn w u :=
    congrArg (ownWriteRecipeReserved port slotIn · u) (recipeAt_recipeBytes slotIn w)
  rw [owner] at carried
  exact carried

theorem exec_reserveRecipe {slotIn : Byte} (free : freePort port s = true) :
    let f : Frame := { kind := 0x0C, tag := tag, body := [slotIn] }
    let handled := ownReserveRecipe port slotIn (atOwner port f s)
    exec (.reserveRecipe port tag slotIn) s = answered port f handled.2 handled.1 :=
  receiveFrame_of_carried (f := { kind := 0x0C, tag := tag, body := [slotIn] }) rfl (.inr rfl) free

/-- Settles O48: a write passes the checks of `writeChecked` and is `storeRecipe`; a reservation is `reserve`. -/
theorem recipeRequestsActOnOneSlot : Obligations.RecipeRequestsActOnOneSlot := by
  unfold Obligations.RecipeRequestsActOnOneSlot
  intro port tag slot w s write reservedWrite reserved g stored
  have written (q : Port) (f : Frame) : stored (storeRecipe slot (recipeOf w) (atOwner q f s)) := by
    obtain ⟨lots, trail, trace, heads⟩ := storeRecipe_rest slot (recipeOf w) (atOwner q f s)
    dsimp only [stored]
    rw [storeRecipe_recipes, lots, trail, trace, heads, atOwner_recipes, atOwner_lots, atOwner_trail, atOwner_trace, atOwner_heads]
    exact ⟨rfl, rfl, rfl, rfl, rfl, rfl, rfl⟩
  have writes (q : Port) (f : Frame) (unused : slotInUse slot s = false) (good : recipeBadField w = none) :
      writeChecked slot w (atOwner q f s)
        = (storeRecipe slot (recipeOf w) (atOwner q f s), .accepted (n8 slot :: le16 (g + 1))) := by
    rw [writeChecked_of_good (by rw [slotInUse_atOwner]; exact unused) good, generationOf_atOwner]
  refine ⟨fun free unused good => ⟨_, ?write, written .line write⟩, fun free used => ?used,
    fun field free unused bad => ?field, fun free held unused good => ⟨_, ?reserved, written port reservedWrite⟩,
    fun free lost => ?lost, fun free => ⟨Machine.reserve port slot (atOwner port reserved s), ?reserve, ?_, ?_, ?_, fun q ne => ?_⟩⟩
  case write => rw [exec_writeRecipe free, ownWriteRecipe_n8, writes _ _ unused good]
  case used =>
    rw [exec_writeRecipe free, ownWriteRecipe_n8, writeChecked_of_used (by rw [slotInUse_atOwner]; exact used)]
    rfl
  case field =>
    rw [exec_writeRecipe free, ownWriteRecipe_n8, writeChecked_of_field (by rw [slotInUse_atOwner]; exact unused) bad]
    rfl
  case reserved =>
    rw [exec_writeRecipeReserved free,
      ownWriteRecipeReserved_of_held (by rw [holdsReservation_atOwner]; exact decide_eq_true held), writes _ _ unused good]
  case lost =>
    rw [exec_writeRecipeReserved free,
      ownWriteRecipeReserved_of_lost (by rw [holdsReservation_atOwner]; exact decide_eq_false lost)]
    rfl
  case reserve =>
    have shown : recipeIn slot (atOwner port reserved s) = recipeIn slot s := by
      unfold recipeIn
      rw [atOwner_recipes]
    rw [exec_reserveRecipe free, ownReserveRecipe_n8, shown, generationOf_atOwner, slotInUse_atOwner]
    congr 3
    split <;> rfl
  · rw [reservationOf_reserve_self, generationOf_atOwner]
  · exact reserve_eq port slot _
  · rw [reserve_slots, atOwner_recipes]
  · rw [reservationOf_reserve_ne ne, reservationOf_atOwner]

end Sys2Proof.Machine
end

section
/-! PROOF. R145, R146, R149: a changeover is armed, meets its boundary and is aborted. -/

namespace Sys2Proof.Machine

variable {s : State} {p : PocketNo} {plan : ChangePlan} {tag boundary slotIn : Byte} {n expected : Word16} {lot : Word32}
  {slot : SlotNo}

/-! ### CHANGEOVER (R145) -/

/-- Every check of a changeover passed. -/
structure ChangeAllowed (plan : ChangePlan) (s : State) : Prop where
  running : s.line.state = .run ∨ s.line.state = .starting
  bare : s.lots.changeover = .none
  profile : s.line.safe = false
  recipe : recipeIn plan.target s ≠ none
  generation : generationOf plan.target s = plan.expected
  target : activeSlot s ≠ some plan.target
  current : ∀ l, s.lots.current = some l → l.lot ≠ plan.newLot
  lastClosed : ∀ l, s.lots.lastClosed = some l → l.lot ≠ plan.newLot

theorem not_any_lot {o : Option LotRecord} (other : ∀ l, o = some l → l.lot ≠ lot) :
    (o.any fun l => decide (l.lot = lot)) = false := by
  cases o with
  | none => rfl
  | some l => exact decide_eq_false (other l rfl)

theorem changeoverRefusal_of_allowed (allowed : ChangeAllowed plan s) : changeoverRefusal plan s = none := by
  obtain ⟨running, bare, profile, recipe, generation, target, current, last⟩ := allowed
  have stands : (recipeIn plan.target s).isNone = false := by rw [Option.isNone_eq_false_iff, Option.isSome_iff_ne_none]; exact recipe
  have other : ¬ (isCurrent plan.newLot s || s.lots.lastClosed.any (·.lot = plan.newLot)) = true := by
    unfold isCurrent
    rw [not_any_lot current, not_any_lot last]
    decide
  unfold changeoverRefusal
  rw [if_neg fun apart => running.elim apart.1 apart.2, if_neg (not_not.mpr bare), if_neg (by rw [profile]; exact nofun),
    if_neg (by rw [stands]; exact nofun), if_neg (not_not.mpr generation), if_neg target, if_neg other]

theorem ChangeAllowed.atOwner (allowed : ChangeAllowed plan s) (port : Port) (f : Frame) :
    ChangeAllowed plan (atOwner port f s) := by
  obtain ⟨running, bare, profile, recipe, generation, target, current, last⟩ := allowed
  constructor
  case running => rw [atOwner_lineState]; exact running
  case bare => rw [atOwner_lots]; exact bare
  case profile => rw [atOwner_safe]; exact profile
  case recipe => unfold recipeIn; rw [atOwner_recipes]; exact recipe
  case generation => rw [generationOf_atOwner]; exact generation
  case target => unfold activeSlot; rw [atOwner_lots]; exact target
  case current => rw [atOwner_lots]; exact current
  case lastClosed => rw [atOwner_lots]; exact last

theorem boundaryOf_eq (valid : boundary = 1 ∨ (boundary = 2 ∧ n ≠ 0)) :
    boundaryOf boundary n = some (if boundary = 1 then .next else .after n.toNat) := by
  unfold boundaryOf
  split
  case isTrue => rfl
  case isFalse other => exact if_pos (valid.resolve_left other)

/-- The offers that a plan counts before its boundary (R145). -/
theorem boundaryCount_eq (boundary : Byte) (n : Nat) :
    boundaryCount (if boundary = 1 then .next else .after n) = if boundary = 1 then 0 else n := by
  split <;> rfl

theorem ownChangeover_of_allowed {b : Boundary} (named : lot ≠ 0) (valid : boundaryOf boundary n = some b)
    (allowed : ChangeAllowed { target := slot, expected := expected, newLot := lot, boundary := b } s) :
    ownChangeover (n8 slot) expected lot boundary n s
      = accept changeoverBody (armChangeover { target := slot, expected := expected, newLot := lot, boundary := b } s) := by
  unfold ownChangeover
  rw [slotOf_n8, valid]
  dsimp only
  rw [if_neg named, changeoverRefusal_of_allowed allowed]

/-- The body of CHANGEOVER gives back its fields. -/
theorem changeover_fields (slotIn boundary : Byte) (expected n : Word16) (lot : Word32) :
    let body := slotIn :: (le16 expected ++ le32 lot ++ [boundary] ++ le16 n)
    wordAt body 1 = expected ∧ dwordAt body 3 = lot ∧ byteAt body 7 = boundary ∧ wordAt body 8 = n := by
  intro body
  have laid : body = slotIn :: (le16 expected ++ (le32 lot ++ (boundary :: le16 n))) := by
    simp only [body, List.append_assoc, List.cons_append, List.nil_append]
  rw [laid]
  refine ⟨wordAt_le16 expected (le32 lot ++ (boundary :: le16 n)), ?_, ?_, ?_⟩
  · exact (dwordAt_past_le16 expected _ 0).trans (dwordAt_le32 _ _)
  · exact (byteAt_past_le16 expected _ 4).trans (byteAt_past_le32 lot _ 0)
  · exact (wordAt_past_le16 expected _ 5).trans ((wordAt_past_le32 lot _ 1).trans (wordAt_le16_end n))

theorem exec_changeover (free : freePort .line s = true) :
    let f : Frame := { kind := 0x0F, tag := tag, body := slotIn :: (le16 expected ++ le32 lot ++ [boundary] ++ le16 n) }
    let handled := ownChangeover slotIn expected lot boundary n (atOwner .line f s)
    exec (.changeover .line tag slotIn expected lot boundary n) s = answered .line f handled.2 handled.1 := by
  intro f
  have carried := receiveFrame_of_carried (f := f) rfl (.inl rfl) free
  obtain ⟨read_expected, read_lot, read_boundary, read_n⟩ := changeover_fields slotIn boundary expected n lot
  have owner (u : State) : handToOwner .line f u = ownChangeover slotIn expected lot boundary n u := by
    change ownChangeover slotIn (wordAt f.body 1) (dwordAt f.body 3) (byteAt f.body 7) (wordAt f.body 8) u = _
    rw [read_expected, read_lot, read_boundary, read_n]
  rw [owner] at carried
  exact carried

/-! ### ABORT_CHANGEOVER (R149) -/

theorem exec_abortChangeover (free : freePort .line s = true) :
    let f : Frame := { kind := 0x10, tag := tag, body := [] }
    let handled := ownAbortChangeover (atOwner .line f s)
    exec (.abortChangeover .line tag) s = answered .line f handled.2 handled.1 :=
  receiveFrame_of_carried (f := { kind := 0x10, tag := tag, body := [] }) rfl (.inl rfl) free

theorem ownAbortChangeover_of_armed {m : Nat} {counted : Vector Bool 24} (armed : s.lots.changeover = .armed plan m counted) :
    ownAbortChangeover s = (sendReport (.changeFailed .hostAbort)
      { s with lots := { s.lots with changeover := .none, lastOutcome := some (.failed .hostAbort) } }, .accepted [1, 2, 1]) := by
  unfold ownAbortChangeover
  rw [armed]
  dsimp only [accept]
  rw [failChangeover_of_armed armed]
  unfold outcomeBytes
  rw [sendReport_lots]
  rfl

theorem ownAbortChangeover_of_switching (switching : s.lots.changeover = .switching plan) :
    ownAbortChangeover s = refuse .tooLate 0 s := by
  unfold ownAbortChangeover
  rw [switching]

theorem ownAbortChangeover_of_none (bare : s.lots.changeover = .none) : ownAbortChangeover s = refuse .wrongState 0 s := by
  unfold ownAbortChangeover
  rw [bare]

/-! ### The boundary (R146, R147) -/

theorem offerLot_of_counting {m : Nat} {counted : Vector Bool 24} {l : LotRecord}
    (armed : s.lots.changeover = .armed plan m counted) (current : s.lots.current = some l) (left : 0 < m) :
    offerLot p s = { s with lots := { s.lots with
      current := some { l with offers := l.offers + 1 }, changeover := .armed plan (m - 1) (counted.set p true) } } := by
  unfold offerLot
  rw [armed]
  dsimp only
  rw [if_neg (Nat.pos_iff_ne_zero.mp left)]
  unfold raiseOffers
  rw [current]
  rfl

theorem offerLot_of_boundary {counted : Vector Bool 24} (armed : s.lots.changeover = .armed plan 0 counted) :
    offerLot p s = boundaryOffer plan s := by
  unfold offerLot
  rw [armed]
  rfl

theorem commitClosing_lots (l : LotRecord) (s : State) :
    (commitClosing l s).lots = { s.lots with
      closing := none, lastClosed := some l, changeover := .none, lastOutcome := some .committed } := by
  unfold commitClosing
  dsimp only
  rw [refreshSlots_lots, sendReport_lots, sendReport_lots]

theorem settleBoundary_of_open {l : LotRecord} (closing : s.lots.closing = some l) (busy : l.inFlight ≠ 0 ∨ l.offers ≠ 0) :
    (settleBoundary s).lots = s.lots := by
  unfold settleBoundary
  rw [closing]
  dsimp only
  rw [if_neg fun rests => busy.elim (· rests.1) (· rests.2), sendReport_lots]

theorem settleBoundary_of_done {l : LotRecord} (closing : s.lots.closing = some l) (done : l.inFlight = 0 ∧ l.offers = 0) :
    settleBoundary s = commitClosing l s := by
  unfold settleBoundary
  rw [closing]
  exact if_pos done

/-- The lots at the boundary, before the closing lot is judged. -/
def boundaryLots (plan : ChangePlan) (s : State) : LotRegister :=
  { s.lots with
    closing := s.lots.current, current := some { newLot plan.newLot plan.target s with offers := 1 },
    changeover := .switching plan }

theorem boundaryOffer_eq (plan : ChangePlan) (s : State) :
    boundaryOffer plan s = settleBoundary (refreshSlots { s with lots := boundaryLots plan s }) := rfl

theorem boundaryOffer_lots_of_open {l : LotRecord} (current : s.lots.current = some l)
    (busy : l.inFlight ≠ 0 ∨ l.offers ≠ 0) : (boundaryOffer plan s).lots = boundaryLots plan s := by
  have lots := refreshSlots_lots { s with lots := boundaryLots plan s }
  rw [boundaryOffer_eq, settleBoundary_of_open (by rw [lots]; exact current) busy, lots]

theorem boundaryOffer_lots_of_done {l : LotRecord} (current : s.lots.current = some l)
    (done : l.inFlight = 0 ∧ l.offers = 0) :
    (boundaryOffer plan s).lots = { boundaryLots plan s with
      closing := none, lastClosed := some l, changeover := .none, lastOutcome := some .committed } := by
  have lots := refreshSlots_lots { s with lots := boundaryLots plan s }
  rw [boundaryOffer_eq, settleBoundary_of_done (by rw [lots]; exact current) done, commitClosing_lots, lots]

/-- Settles O49: an armed changeover counts its offers down, opens the new lot at the boundary, and ends by an abort before it. -/
theorem changeoverArmsMeetsItsBoundaryAndAborts : Obligations.ChangeoverArmsMeetsItsBoundaryAndAborts := by
  unfold Obligations.ChangeoverArmsMeetsItsBoundaryAndAborts
  refine ⟨fun tag target lot boundary n expected s free => ?requests, fun p plan m counted l s armed current => ?offers⟩
  case requests =>
    intro f a where' count plan
    refine ⟨fun named valid running bare profile recipe generation active current last => ?arms,
      fun p m counted armed => ?aborts, fun p switching => ?tooLate, fun bare => ?none⟩
    case arms =>
      have allowed : ChangeAllowed plan s := ⟨running, bare, profile, recipe, generation, active, current, last⟩
      rw [exec_changeover free, ownChangeover_of_allowed named (boundaryOf_eq valid) (allowed.atOwner .line f)]
      unfold accept armChangeover changeoverBody
      rw [atOwner_lots]
      dsimp only [remainingOf]
      rw [boundaryCount_eq]
      rfl
    case aborts =>
      rw [exec_abortChangeover free, ownAbortChangeover_of_armed (by rw [atOwner_lots]; exact armed), atOwner_lots]
    case tooLate =>
      rw [exec_abortChangeover free, ownAbortChangeover_of_switching (by rw [atOwner_lots]; exact switching)]
      rfl
    case none =>
      rw [exec_abortChangeover free, ownAbortChangeover_of_none (by rw [atOwner_lots]; exact bare)]
      rfl
  case offers =>
    refine ⟨fun left => offerLot_of_counting armed current left, fun none_left => ?opens⟩
    case opens =>
      intro t new
      have meets : t = boundaryOffer plan s := offerLot_of_boundary (by rw [armed, none_left])
      rw [meets]
      by_cases done : l.inFlight = 0 ∧ l.offers = 0
      · rw [boundaryOffer_lots_of_done current done]
        exact ⟨rfl, fun busy => absurd done fun rests => busy.elim (· rests.1) (· rests.2), fun _ _ => ⟨rfl, rfl, rfl, rfl⟩⟩
      · have busy : l.inFlight ≠ 0 ∨ l.offers ≠ 0 := not_and_or.mp done
        rw [boundaryOffer_lots_of_open current busy]
        exact ⟨rfl, fun _ => ⟨rfl, current⟩, fun landed offered => absurd ⟨landed, offered⟩ done⟩

end Sys2Proof.Machine
end

section
/-! SUPPORT. The current lot through the changes of the line state, and a start of the line from STOPPED (R143, R154). -/

namespace Sys2Proof.Machine

variable {s t : State} {c : ChannelNo} {lot : LotId} {slot : SlotNo}

/-! ### The current lot stays current (R148, R153, R159) -/

theorem LineMoves.current (h : LineMoves s t) : t.lots.current = s.lots.current := by rw [h.lots]

theorem handOffLine_current (before after : LineState) (s : State) :
    (handOffLine before after s).lots.current = s.lots.current :=
  (handOffLine_lineMoves before after (LineMoves.refl s)).current

theorem changeLine_current (after : LineState) (drain : Option DrainCause) (event : LineEvent) (s : State) :
    (changeLine after drain event id s).lots.current = s.lots.current := (changeLine_id_lineMoves after drain event s).current

theorem checkInService_current (s : State) : (checkInService s).lots.current = s.lots.current := by
  unfold checkInService
  split
  · exact (takeDrainCause_lineMoves (LineMoves.refl s)).current
  · rfl

theorem takeHaltCause_current (cause : HaltCause) (s : State) :
    (takeHaltCause cause s).lots.current = s.lots.current := by
  have entered : (enterHalt cause s).lots.current = s.lots.current := by
    obtain ⟨-, -, -, -, -, lots, -⟩ := enterHalt_rest cause s
    obtain ⟨-, -, told, -⟩ := (haltTold_blocksOnly cause s).rest
    rw [lots]
    exact (handOffLine_current _ _ _).trans (congrArg LotRegister.current told)
  unfold takeHaltCause
  split
  · exact entered
  · exact entered
  · exact entered
  · rfl
  · rfl

/-! ### The channels in service through a grant (R49, R69) -/

theorem inService_grantOnce (c : ChannelNo) (s : State) :
    inService (grantOnce s).gas.channels[c] = inService s.gas.channels[c] := by
  unfold grantOnce
  split
  case h_2 => rfl
  case h_1 p _ d _ _ found =>
    rw [grantChannel_eq, announceGrant_eq]
    change inService (chargeOpened d p s).gas.channels[c] = _
    by_cases same : d = c
    · subst same
      have opened : (chargeOpened d p s).gas.channels[d] = grantedChannel p { s with gas := { s.gas with
          waiting := s.gas.waiting.erase p } } s.gas.channels[d] := getElem_setChannel_self d _ _
      rw [opened, inService, inService, lowestIdle_idle found]
      rfl
    · have kept : (chargeOpened d p s).gas.channels[c] = s.gas.channels[c] := getElem_setChannel_ne same _ _
      rw [kept]

/-- An evaluation of the supply ends as it is, or in a grant search. -/
theorem evaluateSupply_cases (s : State) :
    ∃ t, t.gas.channels = s.gas.channels ∧ (evaluateSupply s = t ∨ evaluateSupply s = grantSearch t) := by
  unfold evaluateSupply
  dsimp only
  split
  · exact ⟨s, rfl, .inl rfl⟩
  · split
    · exact ⟨_, by rw [sendReport_gas], .inr rfl⟩
    · exact ⟨_, by rw [sendReport_gas], .inl rfl⟩

theorem inService_refreshSlots (c : ChannelNo) (s : State) :
    inService (refreshSlots s).gas.channels[c] = inService s.gas.channels[c] := by
  have granted (u : State) : inService (grantSearch u).gas.channels[c] = inService u.gas.channels[c] := by
    unfold grantSearch
    rw [inService_grantOnce, inService_grantOnce, inService_grantOnce, inService_grantOnce]
  obtain ⟨t, channels, judged | searched⟩ := evaluateSupply_cases { refreshCeiling s with
    gas := { s.gas with minInForce := minimumOf (refreshCeiling s) } }
  · exact (congrArg (fun u : State => inService u.gas.channels[c]) judged).trans (by rw [channels])
  · exact (congrArg (fun u : State => inService u.gas.channels[c]) searched).trans ((granted t).trans (by rw [channels]))

theorem channelsInService_ne_zero_iff : channelsInService s ≠ 0 ↔ ∃ c : ChannelNo, inService s.gas.channels[c] = true := by
  unfold channelsInService
  rw [← Nat.pos_iff_ne_zero, List.countP_pos_iff]
  constructor
  · rintro ⟨ch, mem, serves⟩
    obtain ⟨i, inside, rfl⟩ := Vector.mem_iff_getElem.mp (Vector.mem_toList_iff.mp mem)
    exact ⟨⟨i, inside⟩, serves⟩
  · rintro ⟨c, serves⟩
    exact ⟨_, Vector.mem_toList_iff.mpr (Vector.getElem_mem c.isLt), serves⟩

theorem checkInService_of_serving (serving : channelsInService s ≠ 0) : checkInService s = s :=
  if_neg fun both => serving both.2

/-! ### A lot opened at START_LINE (R143) -/

/-- The state with the lot of a START_LINE current. -/
def lotStarted (lot : LotId) (slot : SlotNo) (s : State) : State := if isCurrent lot s then s else openNewLot lot slot s

/-- What opening a lot leaves of the line's owner and of the channels in service. -/
structure LotOpened (s t : State) : Prop where
  line : t.line = s.line
  sync : t.position.sync = s.position.sync
  config : t.config = s.config
  inputs : t.inputs = s.inputs
  serving : channelsInService s ≠ 0 → channelsInService t ≠ 0

theorem LotOpened.refl (s : State) : LotOpened s s := ⟨rfl, rfl, rfl, rfl, id⟩

theorem refreshSlots_opened (s : State) : LotOpened s (refreshSlots s) := by
  have counted := refreshSlots_counted s
  refine ⟨?_, ?_, ?_, ?_, fun serving => ?_⟩
  · rw [counted.elsewhere]
  · rw [counted.elsewhere]
  · rw [counted.elsewhere]
  · rw [counted.elsewhere]
  · obtain ⟨c, serves⟩ := channelsInService_ne_zero_iff.mp serving
    exact channelsInService_ne_zero_iff.mpr ⟨c, (inService_refreshSlots c s).trans serves⟩

/-- The close of the lot that a new one follows. -/
def lastLotClosed (s : State) : State :=
  match s.lots.current with
  | some l => { sendReport (.lotClosed l .startLine) s with
      lots := { (sendReport (.lotClosed l .startLine) s).lots with lastClosed := some l } }
  | none => s

theorem openNewLot_eq (lot : LotId) (slot : SlotNo) (s : State) :
    openNewLot lot slot s = refreshSlots { lastLotClosed s with
      lots := { (lastLotClosed s).lots with current := some (newLot lot slot (lastLotClosed s)) } } := rfl

theorem lastLotClosed_eq (s : State) :
    lastLotClosed s = { s with lots := (lastLotClosed s).lots, link := (lastLotClosed s).link } := by
  unfold lastLotClosed
  split
  · rw [sendReport_eq]
  · rfl

theorem openNewLot_opened (lot : LotId) (slot : SlotNo) (s : State) : LotOpened s (openNewLot lot slot s) := by
  obtain ⟨line, sync, config, inputs, serving⟩ := refreshSlots_opened { lastLotClosed s with
    lots := { (lastLotClosed s).lots with current := some (newLot lot slot (lastLotClosed s)) } }
  have closed := lastLotClosed_eq s
  rw [openNewLot_eq]
  refine ⟨line.trans ?_, sync.trans ?_, config.trans ?_, inputs.trans ?_, fun some_serving => serving ?_⟩
  · dsimp only; rw [closed]
  · dsimp only; rw [closed]
  · dsimp only; rw [closed]
  · dsimp only; rw [closed]
  · unfold channelsInService
    dsimp only
    rw [closed]
    exact some_serving

theorem openNewLot_current (lot : LotId) (slot : SlotNo) (s : State) :
    (openNewLot lot slot s).lots.current = some (newLot lot slot s) := by
  have opened : newLot lot slot (lastLotClosed s) = newLot lot slot s := by
    unfold newLot generationOf
    rw [lastLotClosed_eq]
  rw [openNewLot_eq, refreshSlots_lots]
  exact congrArg some opened

theorem lotStarted_opened (lot : LotId) (slot : SlotNo) (s : State) : LotOpened s (lotStarted lot slot s) := by
  unfold lotStarted
  split
  · exact LotOpened.refl s
  · exact openNewLot_opened lot slot s

/-! ### The line leaves STOPPED (R154, R155) -/

theorem changeLine_of_stopped {after : LineState} {event : LineEvent} (stopped : s.line.state = .stopped) :
    changeLine after none event id s = sendReport (.lineState .stopped after event) (setLine after none s) := by
  unfold changeLine
  rw [stopped]
  unfold handOffLine
  dsimp only
  simp only [reduceCtorEq, false_and, or_self, if_false, runOrDrain, Bool.false_eq_true, id_eq]

theorem startStarting_of_stopped (stopped : s.line.state = .stopped) :
    startStarting s = { sendReport (.lineState .stopped .starting .start) (setLine .starting none s) with
      line := { (setLine .starting none s).line with syncTimer := some (s.config.syncTimeout * 1000) } } := by
  unfold startStarting
  rw [changeLine_of_stopped stopped]
  dsimp only
  rw [sendReport_line, sendReport_config]
  rfl

theorem startRun_of_stopped (stopped : s.line.state = .stopped) (ready : s.inputs.driveReady = true)
    (serving : channelsInService s ≠ 0) :
    startRun s = sendReport (.lineState .stopped .run .start) (setLine .run none s) := by
  have inputs : (sendReport (.lineState .stopped .run .start) (setLine .run none s)).inputs.driveReady = true := by
    rw [sendReport_inputs]
    exact ready
  unfold startRun
  rw [changeLine_of_stopped stopped]
  dsimp only
  rw [if_pos inputs, checkInService_of_serving]
  unfold channelsInService
  rw [sendReport_gas]
  exact serving

theorem startRun_current (s : State) : (startRun s).lots.current = s.lots.current := by
  have change : (changeLine .run none .start id s).lots.current = s.lots.current := changeLine_current _ _ _ s
  unfold startRun
  dsimp only
  rw [checkInService_current]
  split
  · exact change
  · exact (takeHaltCause_current _ _).trans change

/-- The state in which the line starts: its lot current, and the halt record cleared (R154). -/
def lotReady (lot : LotId) (slot : SlotNo) (s : State) : State :=
  { lotStarted lot slot s with line := { (lotStarted lot slot s).line with haltRecord := none } }

theorem lotReady_state (lot : LotId) (slot : SlotNo) (s : State) :
    (lotReady lot slot s).line.state = (lotStarted lot slot s).line.state := rfl

theorem startLine_eq (lot : LotId) (slot : SlotNo) (s : State) :
    startLine lot slot s = if (lotStarted lot slot s).position.sync = .synced then startRun (lotReady lot slot s)
      else startStarting (lotReady lot slot s) := rfl

theorem startLine_current (lot : LotId) (slot : SlotNo) (s : State) :
    (startLine lot slot s).lots.current = (lotStarted lot slot s).lots.current := by
  rw [startLine_eq]
  split
  · exact startRun_current _
  · exact changeLine_current _ _ _ _

end Sys2Proof.Machine
end

section
/-! PROOF. R143, R154: START_LINE starts the line or is refused. -/

namespace Sys2Proof.Machine

variable {s t : State} {lot : LotId} {slot : SlotNo} {tag slotIn : Byte}

/-! ### The checks of line control (R154) -/

theorem ownStartLine_of_zero : ownStartLine 0 slotIn s = refuse .badValue 1 s := if_pos rfl

section Named

variable (named : lot ≠ 0)
include named

theorem ownStartLine_of_bad_slot (beyond : 8 ≤ slotIn.toNat) : ownStartLine lot slotIn s = refuse .badValue 2 s := by
  unfold ownStartLine
  rw [if_neg named, slotOf_of_ge beyond]

theorem ownStartLine_of_moving (moving : s.line.state ≠ .stopped) :
    ownStartLine lot (n8 slot) s = refuse .wrongState 0 s := by
  unfold ownStartLine
  rw [if_neg named, slotOf_n8]
  exact if_pos moving

variable (stopped : s.line.state = .stopped)
include stopped

theorem ownStartLine_of_latched (latched : s.line.latch ≠ none) :
    ownStartLine lot (n8 slot) s = refuse .interlock 0 s := by
  unfold ownStartLine
  rw [if_neg named, slotOf_n8]
  dsimp only
  rw [if_neg (not_not.mpr stopped), if_pos (Option.isSome_iff_ne_none.mpr latched)]

variable (clear : s.line.latch = none)
include clear

theorem ownStartLine_of_over_limit (above : s.config.retirementLimit < s.retirements.length) :
    ownStartLine lot (n8 slot) s = refuse .retirementLimit 0 s := by
  unfold ownStartLine
  rw [if_neg named, slotOf_n8]
  dsimp only
  rw [if_neg (not_not.mpr stopped), clear, if_neg (by decide), if_pos (show overLimit s = true from decide_eq_true above)]

variable (room : s.retirements.length ≤ s.config.retirementLimit)
include room

theorem ownStartLine_of_room :
    ownStartLine lot (n8 slot) s =
      if channelsInService s = 0 then refuse .noChannel 0 s
      else (lotRefusal lot slot s).elim
        (accept (fun s => n8 (codeLineState s.line.state) :: (le32 ((s.lots.current.map (·.lot)).getD 0)
            ++ [slotByte (activeSlot s)])) (startLine lot slot s))
        fun refusal => refuse refusal.1 refusal.2 s := by
  have within : ¬ overLimit s = true := fun above => Nat.not_lt.mpr room (of_decide_eq_true above)
  unfold ownStartLine
  rw [if_neg named, slotOf_n8]
  dsimp only
  rw [if_neg (not_not.mpr stopped), clear, if_neg (by decide), if_neg within]
  refine if_congr Iff.rfl rfl ?_
  cases lotRefusal lot slot s <;> rfl

variable (serving : channelsInService s ≠ 0)
include serving

theorem ownStartLine_of_refused {reason : RefusalReason} {field : Nat}
    (refused : lotRefusal lot slot s = some (reason, field)) :
    ownStartLine lot (n8 slot) s = refuse reason field s := by
  rw [ownStartLine_of_room named stopped clear room, if_neg serving, refused]
  rfl

theorem ownStartLine_of_good (good : lotRefusal lot slot s = none) :
    ownStartLine lot (n8 slot) s
      = accept (fun s => n8 (codeLineState s.line.state) :: (le32 ((s.lots.current.map (·.lot)).getD 0)
          ++ [slotByte (activeSlot s)])) (startLine lot slot s) := by
  rw [ownStartLine_of_room named stopped clear room, if_neg serving, good]
  rfl

end Named

theorem slotIn_eq_n8 (within : slotIn.toNat < 8) : ∃ slot : SlotNo, slotIn = n8 slot :=
  ⟨⟨slotIn.toNat, within⟩, (ofNat_toNat_same slotIn).symm⟩

/-! ### The checks of the lot register (R143) -/

theorem isCurrent_of_current {l : LotRecord} (current : s.lots.current = some l) (same : l.lot = lot) :
    isCurrent lot s = true := by
  unfold isCurrent
  rw [current]
  exact decide_eq_true same

theorem isCurrent_of_other (other : ∀ l, s.lots.current = some l → l.lot ≠ lot) : isCurrent lot s = false :=
  not_any_lot other

theorem lotRefusal_of_empty (empty : recipeIn slot s = none) : lotRefusal lot slot s = some (.slotEmpty, 0) := by
  unfold lotRefusal
  rw [empty]
  rfl

section Filled

variable (filled : recipeIn slot s ≠ none)
include filled

theorem lotRefusal_of_current {l : LotRecord} (current : s.lots.current = some l) (same : l.lot = lot) :
    lotRefusal lot slot s = if l.slot = slot then none else some (.badValue, 2) := by
  have stands : ¬ (recipeIn slot s).isNone = true := fun empty => filled (Option.isNone_iff_eq_none.mp empty)
  unfold lotRefusal
  rw [if_neg stands, if_pos (isCurrent_of_current current same)]
  unfold activeSlot
  rw [current]
  simp only [Option.map_some, Option.some.injEq]

variable (other : ∀ l, s.lots.current = some l → l.lot ≠ lot)
include other

theorem lotRefusal_of_other :
    lotRefusal lot slot s
      = if s.lots.current.any (fun l => l.inFlight ≠ 0 || l.offers ≠ 0) || s.lots.changeover ≠ .none then
          some (.lotOpen, 0)
        else if s.lots.lastClosed.any (·.lot = lot) then some (.badValue, 1)
        else none := by
  have stands : ¬ (recipeIn slot s).isNone = true := fun empty => filled (Option.isNone_iff_eq_none.mp empty)
  unfold lotRefusal
  rw [if_neg stands, if_neg (by rw [isCurrent_of_other other]; decide)]

theorem lotRefusal_of_open (stands : s.lots.changeover ≠ .none
    ∨ ∃ l, s.lots.current = some l ∧ (l.inFlight ≠ 0 ∨ l.offers ≠ 0)) : lotRefusal lot slot s = some (.lotOpen, 0) := by
  rw [lotRefusal_of_other filled other]
  refine if_pos ?_
  rcases stands with change | ⟨l, current, busy⟩
  · rw [decide_eq_true change, Bool.or_true]
  · rw [current]
    simpa using .inl busy

variable (bare : s.lots.changeover = .none) (idle : ∀ l, s.lots.current = some l → l.inFlight = 0 ∧ l.offers = 0)
include bare idle

theorem lotRefusal_of_idle :
    lotRefusal lot slot s = if s.lots.lastClosed.any (·.lot = lot) then some (.badValue, 1) else none := by
  rw [lotRefusal_of_other filled other]
  refine if_neg ?_
  rw [bare]
  cases current : s.lots.current with
  | none => decide
  | some l =>
    obtain ⟨landed, offered⟩ := idle l current
    simp [landed, offered]

theorem lotRefusal_of_last {q : LotRecord} (last : s.lots.lastClosed = some q) (same : q.lot = lot) :
    lotRefusal lot slot s = some (.badValue, 1) := by
  rw [lotRefusal_of_idle filled other bare idle, last]
  exact if_pos (decide_eq_true same)

theorem lotRefusal_of_new (last : ∀ l, s.lots.lastClosed = some l → l.lot ≠ lot) : lotRefusal lot slot s = none := by
  rw [lotRefusal_of_idle filled other bare idle, not_any_lot last]
  rfl

end Filled

/-! ### The line starts -/

theorem exec_startLine (free : freePort .line s = true) :
    let f : Frame := { kind := 0x03, tag := tag, body := le32 lot ++ [slotIn] }
    let handled := ownStartLine lot slotIn (atOwner .line f s)
    exec (.startLine .line tag lot slotIn) s = answered .line f handled.2 handled.1 := by
  intro f
  have carried := receiveFrame_of_carried (f := f) rfl (.inl rfl) free
  have owner (u : State) : handToOwner .line f u = ownStartLine lot slotIn u := by
    change ownStartLine (dwordAt f.body 0) (byteAt f.body 4) u = _
    rw [dwordAt_le32, byteAt_past_le32 lot [slotIn] 0]
    rfl
  rw [owner] at carried
  exact carried

/-- The lot of a START_LINE is current once it is started. -/
theorem lotStarted_current (named : (∃ l, s.lots.current = some l ∧ l.lot = lot ∧ l.slot = slot)
    ∨ ∀ l, s.lots.current = some l → l.lot ≠ lot) :
    ∃ l, (lotStarted lot slot s).lots.current = some l ∧ l.lot = lot ∧ l.slot = slot := by
  unfold lotStarted
  rcases named with ⟨l, current, same, in_slot⟩ | other
  · rw [if_pos (isCurrent_of_current current same)]
    exact ⟨l, current, same, in_slot⟩
  · rw [isCurrent_of_other other]
    exact ⟨_, openNewLot_current lot slot s, rfl, rfl⟩

/-- A start with the position not SYNCED. -/
theorem startLine_of_not_synced (stopped : s.line.state = .stopped) (apart : s.position.sync ≠ .synced) :
    (startLine lot slot s).line.state = .starting ∧ (startLine lot slot s).line.runPermit = true
      ∧ (startLine lot slot s).line.haltRecord = none
      ∧ (startLine lot slot s).line.syncTimer = some (s.config.syncTimeout * 1000) := by
  obtain ⟨line, sync, config, -, -⟩ := lotStarted_opened lot slot s
  rw [startLine_eq]
  rw [if_neg (by rw [sync]; exact apart),
    startStarting_of_stopped (s := lotReady lot slot s) (by rw [lotReady_state, line]; exact stopped)]
  exact ⟨rfl, rfl, rfl, congrArg (fun k : MachineConfig => some (k.syncTimeout * 1000)) config⟩

/-- A start with the position SYNCED and the drive ready. -/
theorem startLine_of_synced (stopped : s.line.state = .stopped) (permit : s.line.runPermit = false)
    (synced : s.position.sync = .synced) (ready : s.inputs.driveReady = true) (serving : channelsInService s ≠ 0) :
    (startLine lot slot s).line.state = .run ∧ (startLine lot slot s).line.runPermit = true
      ∧ (startLine lot slot s).line.haltRecord = none
      ∧ (startLine lot slot s).position.stallTimer = some s.config.stallTime := by
  obtain ⟨line, sync, config, inputs, in_service⟩ := lotStarted_opened lot slot s
  have stall : stallAfter true (lotStarted lot slot s) = some s.config.stallTime := by
    unfold stallAfter
    rw [line, permit, inputs, ready, config]
    rfl
  rw [startLine_eq]
  rw [if_pos (by rw [sync]; exact synced),
    startRun_of_stopped (s := lotReady lot slot s) (by rw [lotReady_state, line]; exact stopped)
      (by rw [← inputs] at ready; exact ready) (in_service serving), sendReport_line, sendReport_position]
  exact ⟨rfl, rfl, rfl, stall⟩

/-- Settles O44: the checks in their order, each a branch of `ownStartLine` or `lotRefusal`, and the start of `startLine`. -/
theorem startLineStartsTheLineOrIsRefused : Obligations.StartLineStartsTheLineOrIsRefused := by
  unfold Obligations.StartLineStartsTheLineOrIsRefused
  have serving_at (f : Frame) (s : State) : channelsInService (atOwner .line f s) = channelsInService s := by
    unfold channelsInService
    rw [atOwner_gas]
  have recipe_at (f : Frame) (i : SlotNo) (s : State) : recipeIn i (atOwner .line f s) = recipeIn i s := by
    unfold recipeIn
    rw [atOwner_recipes]
  refine ⟨fun tag lot slot s => ?starts, fun tag slotIn lot s free => ?refusals⟩
  case starts =>
    intro f free named stopped wf clear room serving filled lots
    have owner_serving : channelsInService (atOwner .line f s) ≠ 0 := by rw [serving_at]; exact serving
    have owner_filled : recipeIn slot (atOwner .line f s) ≠ none := by rw [recipe_at]; exact filled
    have good : lotRefusal lot slot (atOwner .line f s) = none := by
      rcases lots with ⟨l, current, same, in_slot⟩ | ⟨others, bare, last⟩
      · rw [lotRefusal_of_current owner_filled (by rw [atOwner_lots]; exact current) same, if_pos in_slot]
      · exact lotRefusal_of_new owner_filled (fun l current => (others l (by rwa [atOwner_lots] at current)).1)
          (by rw [atOwner_lots]; exact bare) (fun l current => (others l (by rwa [atOwner_lots] at current)).2)
          fun l closed => last l (by rwa [atOwner_lots] at closed)
    have started : ∃ l, (startLine lot slot (atOwner .line f s)).lots.current = some l ∧ l.lot = lot ∧ l.slot = slot := by
      rw [startLine_current]
      refine lotStarted_current ?_
      rw [atOwner_lots]
      exact lots.imp_right fun other l current => (other.1 l current).1
    refine ⟨startLine lot slot (atOwner .line f s), ?request, started, fun apart => ?starting, fun synced ready => ?runs,
      fun other => ?new⟩
    case request =>
      obtain ⟨l, current, same, in_slot⟩ := started
      rw [exec_startLine free, ownStartLine_of_good named ((atOwner_lineState .line f s).trans stopped)
        ((atOwner_latch .line f s).trans clear) (by rw [atOwner_retirements, atOwner_config]; exact room) owner_serving good]
      unfold accept activeSlot
      dsimp only
      rw [current]
      dsimp only [Option.map_some, Option.getD_some, slotByte]
      rw [same, in_slot]
    case starting =>
      have begun := startLine_of_not_synced (lot := lot) (slot := slot) ((atOwner_lineState .line f s).trans stopped)
        (by rw [atOwner_position]; exact apart)
      rw [atOwner_config] at begun
      exact begun
    case runs =>
      have permit : s.line.runPermit = false := by
        rw [LineControl.wf_iff] at wf
        obtain ⟨run, -⟩ := wf
        rw [run, stopped]
        rfl
      have begun := startLine_of_synced (lot := lot) (slot := slot) ((atOwner_lineState .line f s).trans stopped) permit
        (by rw [atOwner_position]; exact synced) (by rw [atOwner_inputs]; exact ready) owner_serving
      rw [atOwner_config] at begun
      exact begun
    case new =>
      rw [startLine_current, lotStarted, isCurrent_of_other (by rw [atOwner_lots]; exact other)]
      refine (openNewLot_current lot slot _).trans ?_
      unfold newLot
      rw [generationOf_atOwner]
  case refusals =>
    intro f refused
    have refuses {reason : RefusalReason} {field : Nat}
        (owner : ownStartLine lot slotIn (atOwner .line f s) = refuse reason field (atOwner .line f s)) :
        refused reason field := by
      dsimp only [refused]
      rw [exec_startLine free, owner]
      rfl
    have owner_room (room : s.retirements.length ≤ s.config.retirementLimit) :
        (atOwner .line f s).retirements.length ≤ (atOwner .line f s).config.retirementLimit := by
      rw [atOwner_retirements, atOwner_config]
      exact room
    have owner_stopped (stopped : s.line.state = .stopped) := (atOwner_lineState .line f s).trans stopped
    have owner_clear (clear : s.line.latch = none) := (atOwner_latch .line f s).trans clear
    refine ⟨fun zero => refuses ?zero, fun named beyond => refuses (ownStartLine_of_bad_slot named beyond),
      fun named within moving => refuses ?moving, fun named within stopped latched => refuses ?latched,
      fun named within stopped clear above => refuses ?above, fun named within stopped clear room bare => refuses ?noChannel,
      fun i named_slot named stopped clear room serving => ?lots⟩
    case zero => rw [zero]; exact ownStartLine_of_zero
    case moving =>
      obtain ⟨i, rfl⟩ := slotIn_eq_n8 within
      exact ownStartLine_of_moving named (by rw [atOwner_lineState]; exact moving)
    case latched =>
      obtain ⟨i, rfl⟩ := slotIn_eq_n8 within
      exact ownStartLine_of_latched named (owner_stopped stopped) (by rw [atOwner_latch]; exact latched)
    case above =>
      obtain ⟨i, rfl⟩ := slotIn_eq_n8 within
      exact ownStartLine_of_over_limit named (owner_stopped stopped) (owner_clear clear)
        (by rw [atOwner_retirements, atOwner_config]; exact above)
    case noChannel =>
      obtain ⟨i, rfl⟩ := slotIn_eq_n8 within
      exact (ownStartLine_of_room named (owner_stopped stopped) (owner_clear clear) (owner_room room)).trans
        (if_pos (by rw [serving_at]; exact bare))
    case lots =>
      subst named_slot
      have lot_refuses {reason : RefusalReason} {field : Nat}
          (lots : lotRefusal lot i (atOwner .line f s) = some (reason, field)) : refused reason field :=
        refuses (ownStartLine_of_refused named (owner_stopped stopped) (owner_clear clear) (owner_room room)
          (by rw [serving_at]; exact serving) lots)
      have fills (filled : recipeIn i s ≠ none) : recipeIn i (atOwner .line f s) ≠ none := by rw [recipe_at]; exact filled
      refine ⟨fun empty => lot_refuses (lotRefusal_of_empty (by rw [recipe_at]; exact empty)),
        fun l filled current same other_slot => lot_refuses ?otherSlot,
        fun filled other => ⟨fun stands => lot_refuses ?stands, fun q bare idle last same => lot_refuses ?last⟩⟩
      case otherSlot =>
        exact (lotRefusal_of_current (fills filled) (by rw [atOwner_lots]; exact current) same).trans (if_neg other_slot)
      case stands =>
        refine lotRefusal_of_open (fills filled) ?_ ?_
        · rw [atOwner_lots]; exact other
        · rw [atOwner_lots]; exact stands
      case last =>
        refine lotRefusal_of_last (fills filled) ?_ ?_ ?_ (by rw [atOwner_lots]; exact last) same
        · rw [atOwner_lots]; exact other
        · rw [atOwner_lots]; exact bare
        · rw [atOwner_lots]; exact idle

end Sys2Proof.Machine
end

section
/-! PROOF. R141: the counting events keep the identity of the open lots. -/

namespace Sys2Proof.Machine

variable {s : State} {l : LotRecord} {lot : LotId}

/-- The identity of one lot (R141). -/
abbrev LotRecord.Balanced (l : LotRecord) : Prop :=
  l.admitted = l.accepted + l.scrapped + l.held + l.missing + l.lost + l.inFlight

/-- The identity of every lot of the register. -/
structure LotRegister.Books (r : LotRegister) : Prop where
  current : ∀ l, r.current = some l → l.Balanced
  closing : ∀ l, r.closing = some l → l.Balanced
  lastClosed : ∀ l, r.lastClosed = some l → l.Balanced

/-- An open lot is the current one or the closing one. -/
theorem openLot_held (opened : openLot lot s = some l) : s.lots.current = some l ∨ s.lots.closing = some l := by
  unfold openLot at opened
  split at opened
  case h_1 k current =>
    split at opened
    · exact .inl (current.trans opened)
    · exact .inr (Option.filter_eq_some_iff.mp opened).1
  case h_2 => exact .inr (Option.filter_eq_some_iff.mp opened).1

theorem openLot_balanced (books : s.lots.Books) (opened : openLot lot s = some l) : l.Balanced :=
  (openLot_held opened).elim (books.current l) (books.closing l)

theorem putLot_books (books : s.lots.Books) (balanced : l.Balanced) : (putLot l s).lots.Books := by
  have only (k : LotRecord) (same : some l = some k) : k.Balanced := Option.some.inj same ▸ balanced
  unfold putLot
  split
  · exact ⟨only, books.closing, books.lastClosed⟩
  · exact ⟨books.current, only, books.lastClosed⟩

theorem settleLot_books (books : s.lots.Books) (lot : LotId) : (settleLot lot s).lots.Books := by
  unfold settleLot
  split
  case h_1 l closing =>
    split
    · rw [commitClosing_lots]
      exact ⟨books.current, nofun, fun k same => books.closing k (closing.trans same)⟩
    · exact books
  case h_2 => exact books

/-- Below its top a count rises by 1. -/
theorem raiseCount_of_below {n : Nat} (below : n < 4294967295) (ix : Nat) : raiseCount n ix = n + 1 := if_pos below

/-- A counting event keeps the books where it keeps the identity of the lot it counts in. -/
theorem countEvent_books {count : LotRecord → Nat} {write : Nat → LotRecord → LotRecord} (books : s.lots.Books)
    (below : ∀ l, openLot lot s = some l → count l < 4294967295)
    (kept : ∀ l, openLot lot s = some l → l.Balanced → (write (count l + 1) l).Balanced) :
    (countEvent lot count write s).lots.Books := by
  unfold countEvent
  split
  case h_1 l opened =>
    rw [raiseCount_of_below (below l opened)]
    have put := putLot_books books (kept l opened (openLot_balanced books opened))
    exact settleLot_books (s := { putLot (write (count l + 1) l) s with freeIx := raiseIx (count l) s.freeIx }) put lot
  case h_2 => exact books

section Events

variable (books : s.lots.Books)
include books

theorem countAdmission_books (below : ∀ l, openLot lot s = some l → l.admitted < 4294967295) :
    (countAdmission lot s).lots.Books := by
  refine countEvent_books books below fun l _ balanced => ?_
  dsimp only [LotRecord.Balanced] at balanced ⊢
  omega

theorem countNoCan_books : (countNoCan lot s).lots.Books := by
  unfold countNoCan
  split
  case h_1 l opened =>
    have balanced : l.Balanced := openLot_balanced books opened
    exact settleLot_books (putLot_books (l := { l with offers := l.offers - 1 }) books balanced) lot
  case h_2 => exact books

variable (below : ∀ l, openLot lot s = some l → l.admitted < 4294967295)
  (flies : ∀ l, openLot lot s = some l → l.inFlight ≠ 0)
include below flies

/-- A count of what leaves the flight is below its top, since it is part of what was admitted. -/
theorem countEvent_books_of_landing {count : LotRecord → Nat} {write : Nat → LotRecord → LotRecord}
    (part : ∀ l : LotRecord, l.Balanced → count l ≤ l.admitted)
    (kept : ∀ l : LotRecord, l.inFlight ≠ 0 → l.Balanced → (write (count l + 1) l).Balanced) :
    (countEvent lot count write s).lots.Books :=
  countEvent_books books (fun l opened => Nat.lt_of_le_of_lt (part l (openLot_balanced books opened)) (below l opened))
    fun l opened balanced => kept l (flies l opened) balanced

theorem countLost_books : (countLost lot s).lots.Books := by
  refine countEvent_books_of_landing books below flies (fun l balanced => ?_) fun l airborne balanced => ?_
  all_goals
    dsimp only [LotRecord.Balanced] at balanced ⊢
    omega

theorem countArrival_books (d : Disposition) : (countArrival lot d s).lots.Books := by
  unfold countArrival
  split
  all_goals
    refine countEvent_books_of_landing books below flies (fun l balanced => ?_) fun l airborne balanced => ?_
    all_goals
      dsimp only [LotRecord.Balanced] at balanced ⊢
      omega

end Events

/-- Settles O32: what each event adds to one side of the identity it adds to the other, or moves within one side. -/
theorem countingEventsKeepTheLotIdentity : Obligations.CountingEventsKeepTheLotIdentity := by
  unfold Obligations.CountingEventsKeepTheLotIdentity
  intro balanced books lot d s kept below
  have iff_books (t : State) : books t ↔ t.lots.Books :=
    ⟨fun ⟨current, closing, last⟩ => ⟨current, closing, last⟩, fun ⟨current, closing, last⟩ => ⟨current, closing, last⟩⟩
  simp only [iff_books] at kept ⊢
  exact ⟨countAdmission_books kept below, countNoCan_books kept,
    fun flies => ⟨countLost_books kept below flies, countArrival_books kept below flies d⟩⟩

end Sys2Proof.Machine
end

section
/-! PROOF. R83, R94: a calibration candidate is measured and decided. -/

namespace Sys2Proof.Machine

variable {s : State} {p : PocketNo} {candidate : Option Int}

/-! ### A drain cause leaves a head that is not RESEATING (R157, R158) -/

theorem changeLine_heads {also : State → State} (after : LineState) (drain : Option DrainCause) (event : LineEvent)
    (s : State) : (changeLine after drain event also s).heads = (also (setLine after drain s)).heads := by
  unfold changeLine
  dsimp only
  rw [sendReport_heads]
  exact (handOffLine_rest _ _ _).2.2.2.1

theorem getElem_completeDrain_head (other : s.heads[p].state ≠ .reseating) :
    (completeDrain s).heads[p] = s.heads[p] := by
  have view := headView_forHeads_interruptCalibration p (setLine .stopped none s)
  have heads : (forHeads interruptCalibration (setLine .stopped none s)).heads[p] = s.heads[p] := by
    refine (congrArg (fun v => v.2.2) view).trans ?_
    unfold interruptedView headView
    dsimp only
    split
    · exact if_neg other
    · rfl
  rw [completeDrain]
  exact (congrArg (·[p]) (changeLine_heads _ _ _ s)).trans heads

theorem getElem_takeDrainCause_head (cause : DrainCause) (other : s.heads[p].state ≠ .reseating) :
    (takeDrainCause cause s).heads[p] = s.heads[p] := by
  have change (after : LineState) (drain : Option DrainCause) (event : LineEvent) :
      (changeLine after drain event id s).heads[p] = s.heads[p] := congrArg (·[p]) (changeLine_heads after drain event s)
  unfold takeDrainCause
  split
  · unfold checkDrain
    split
    · exact (getElem_completeDrain_head (by rw [change]; exact other)).trans (change _ _ _)
    · exact change _ _ _
  · exact change _ _ _
  · rfl

/-- A retirement with room in the table, whatever the drain that it may bring. -/
theorem retire_head_of_room {cause : RetireCause} {event : HeadEvent}
    (room : s.retirements.length ≤ s.config.retirementLimit) :
    (retire p cause event s).heads[p] = retiredHead cause s.heads[p]
      ∧ (retire p cause event s).retirements
          = s.retirements ++ [{ pocket := p, cause := cause, lastCan := s.heads[p].lastCan }] := by
  have head := getElem_moveHead_self p event (retiredHead cause) (withEntry p cause s)
  have table := moveHead_retirements (p := p) (s := withEntry p cause s) event (retiredHead cause)
  rcases room.lt_or_eq with below | limit
  · rw [retire_of_below below]
    exact ⟨head, table⟩
  · rw [retire_of_at_limit limit, (takeDrainCause_lineMoves (LineMoves.refl _)).retired]
    exact ⟨(getElem_takeDrainCause_head _ (by rw [head]; exact nofun)).trans head, table⟩

/-! ### The decision (R94) -/

theorem decideCalibration_of_other (other : s.heads[p].state ≠ .reseating) : decideCalibration p candidate s = s :=
  if_neg other

theorem decideCalibration_of_within {n : Int} (reseating : s.heads[p].state = .reseating)
    (within : n.natAbs ≤ s.config.calibrationLimit) :
    decideCalibration p (some n) s
      = moveHead p .calibration
          (fun h => { h with zeroOffset := n, remainder := s.config.probationCount, state := .probation }) s :=
  (if_pos reseating).trans (if_pos (decide_eq_true within))

/-- A head with the tally of a failed calibration (R94). -/
def calCounted (h : Head) : Head :=
  { h with tallies := { h.tallies with cal := min 65535 (h.tallies.cal + 1) } }

theorem decideCalibration_of_beyond (reseating : s.heads[p].state = .reseating)
    (beyond : candidate = none ∨ ∃ n : Int, candidate = some n ∧ s.config.calibrationLimit < n.natAbs) :
    decideCalibration p candidate s = retire p .cal .calibration (setHead p (calCounted s.heads[p]) s) := by
  have refused : ¬ candidateAccepted candidate s.config.calibrationLimit = true := by
    rcases beyond with rfl | ⟨n, rfl, above⟩
    · exact nofun
    · exact fun within => Nat.not_lt.mpr (of_decide_eq_true within) above
  unfold decideCalibration
  rw [if_pos reseating, if_neg refused, saturatingSucc_eq_min]
  rfl

/-! ### The measurement (R83) -/

theorem crimpMeasureCrossing_of_calibration {b : Binding} {st : Stroke} (stroke : s.crimp[p].stroke = some st)
    (kind : st.kind = .calibration) (pass : s.pockets[p].step = .calPass) (unmarked : s.pockets[p].halted = false) :
    crimpMeasureCrossing p b s = measureCalibration p st s := by
  unfold crimpMeasureCrossing
  rw [unmarked, if_neg Bool.false_ne_true, stroke]
  dsimp only
  rw [kind, pass]

/-- Settles O28: the measurement hands its candidate to `decideCalibration`, whose branches are the three outcomes. -/
theorem calibrationCandidateIsMeasuredAndDecided : Obligations.CalibrationCandidateIsMeasuredAndDecided := by
  unfold Obligations.CalibrationCandidateIsMeasuredAndDecided
  refine ⟨fun p b st s stroke kind pass unmarked => ?measured, fun p candidate s => ?decided⟩
  case measured =>
    rw [crimpMeasureCrossing_of_calibration stroke kind pass unmarked]
    rfl
  case decided =>
    intro t
    refine ⟨fun other => decideCalibration_of_other other, fun n given within reseating => ?within,
      fun beyond reseating => ?beyond⟩
    case within =>
      have decided : t = _ := (congrArg (decideCalibration p · s) given).trans (decideCalibration_of_within reseating within)
      rw [decided, getElem_moveHead_self]
    case beyond =>
      have decided : t = _ := decideCalibration_of_beyond reseating beyond
      have counted := getElem_setHead_self p (calCounted s.heads[p]) s
      rw [decided]
      rcases Nat.lt_or_ge s.config.retirementLimit s.retirements.length with full | room
      · rw [retire_of_full (s := setHead p (calCounted s.heads[p]) s) full, getElem_moveHead_self, moveHead_retirements, counted]
        exact ⟨rfl, rfl, rfl, fun room => absurd full (Nat.not_lt.mpr room), fun _ => ⟨rfl, rfl, rfl⟩⟩
      · obtain ⟨head, table⟩ := retire_head_of_room (s := setHead p (calCounted s.heads[p]) s) (p := p) (cause := .cal)
          (event := .calibration) room
        rw [head, table, counted]
        exact ⟨rfl, rfl, rfl, fun _ => ⟨rfl, rfl⟩, fun full => absurd full (Nat.not_lt.mpr room)⟩

end Sys2Proof.Machine
end

section
/-! PROOF. R26 to R28, R47, R52: the crossings from cup check to charge close. -/

namespace Sys2Proof.Machine

variable {s : State} {p : PocketNo} {c d : ChannelNo} {r : CanRecord}

theorem setPocket_setPocket (p : PocketNo) (a b : Pocket) (s : State) : setPocket p b (setPocket p a s) = setPocket p b s := by
  unfold setPocket
  dsimp only
  rw [Vector.set_set]

theorem addPocketReasons_of_can {k : Pocket} (l : List Reason) (can : k.content = .can r) :
    addPocketReasons l k = { k with content := .can (withReasons l r) } := by
  unfold addPocketReasons
  rw [can]

/-! ### Cup check and seat (R26, R27) -/

theorem cupCheckCrossing_of_loaded (unmarked : s.pockets[p].halted = false) (loaded : s.pockets[p].step = .loaded) :
    cupCheckCrossing p s = if s.inputs.cupPresent[p] then setPocket p { s.pockets[p] with step := .cupped } s
      else setPocket p (addPocketReasons [.noCup] s.pockets[p]) s :=
  if_pos ⟨loaded, by rw [unmarked]; exact Bool.false_ne_true⟩

theorem cupCheckCrossing_of_other (other : s.pockets[p].halted = true ∨ s.pockets[p].step ≠ .loaded) :
    cupCheckCrossing p s = s :=
  if_neg fun acts => other.elim acts.2 fun step => step acts.1

theorem seatCrossing_of_cupped (unmarked : s.pockets[p].halted = false) (cupped : s.pockets[p].step = .cupped) :
    seatCrossing p s = setCrimp p { s.crimp[p] with bellLowered := true }
      (setPocket p (if s.inputs.bellClosed[p] then { s.pockets[p] with step := .seated, seatWatch := false }
        else { s.pockets[p] with seatWatch := true }) s) := by
  unfold seatCrossing
  dsimp only
  rw [if_pos ⟨cupped, by rw [unmarked]; exact Bool.false_ne_true⟩]
  split <;> rfl

theorem seatCrossing_of_other (other : s.pockets[p].halted = true ∨ s.pockets[p].step ≠ .cupped) :
    seatCrossing p s = s :=
  if_neg fun acts => other.elim acts.2 fun step => step acts.1

/-! ### Charge open (R28, R46) -/

theorem chargeOpenCrossing_of_cupped (unmarked : s.pockets[p].halted = false) (cupped : s.pockets[p].step = .cupped)
    (can : s.pockets[p].content = .can r) :
    chargeOpenCrossing p s = setPocket p { s.pockets[p] with
      seatWatch := false, content := .can (withReasons [.seatFail] r) } s := by
  unfold chargeOpenCrossing modifyPocket
  dsimp only
  rw [getElem_setPocket_self]
  dsimp only
  rw [unmarked, if_neg Bool.false_ne_true, cupped]
  dsimp only
  rw [setPocket_setPocket]
  exact congrArg (setPocket p · s) (addPocketReasons_of_can _ can)

theorem chargeOpenCrossing_of_other (other : s.pockets[p].halted = true
    ∨ (s.pockets[p].step ≠ .cupped ∧ s.pockets[p].step ≠ .seated)) :
    chargeOpenCrossing p s = setPocket p { s.pockets[p] with seatWatch := false } s := by
  unfold chargeOpenCrossing modifyPocket
  dsimp only
  rw [getElem_setPocket_self]
  dsimp only
  split
  case isTrue => rfl
  case isFalse unmarked =>
    obtain ⟨not_cupped, not_seated⟩ := other.resolve_left unmarked
    split
    · contradiction
    · contradiction
    · rfl

theorem chargeOpenCrossing_of_seated (unmarked : s.pockets[p].halted = false) (seated : s.pockets[p].step = .seated) :
    chargeOpenCrossing p s = joinWaiting p (setPocket p { s.pockets[p] with seatWatch := false, step := .waitCharge } s) := by
  unfold chargeOpenCrossing modifyPocket
  dsimp only
  rw [getElem_setPocket_self]
  dsimp only
  rw [unmarked, if_neg Bool.false_ne_true, seated]
  dsimp only
  rw [setPocket_setPocket]

theorem lowestIdle_eq_none (busy : ∀ c : ChannelNo, s.gas.channels[c].state ≠ .idle) : lowestIdle s = none := by
  cases found : lowestIdle s with
  | none => rfl
  | some c => exact absurd (lowestIdle_idle found) (busy c)

theorem grantSearch_of_busy (busy : ∀ c : ChannelNo, s.gas.channels[c].state ≠ .idle) : grantSearch s = s := by
  have once : grantOnce s = s := by
    unfold grantOnce
    rw [lowestIdle_eq_none busy]
    split
    case h_1 found => cases found
    case h_2 => rfl
  unfold grantSearch
  rw [once, once, once, once]

theorem joinWaiting_of_open (runs : s.line.state = .run ∨ s.line.state = .drain) (out : p ∉ s.gas.waiting) :
    joinWaiting p s = grantSearch { s with gas := { s.gas with waiting := s.gas.waiting ++ [p] } } := by
  unfold joinWaiting
  rw [if_pos runs, if_neg out]

theorem joinWaiting_of_shut (not_run : s.line.state ≠ .run) (not_drain : s.line.state ≠ .drain) :
    joinWaiting p s = announceRemoval p s := if_neg fun runs => runs.elim not_run not_drain

/-! ### Charge latest (R47) -/

theorem missedPocket_of_can {k : Pocket} (can : k.content = .can r) :
    missedPocket k = { k with step := .charged, content := .can (withReasons [.chargeMissed] r) } := by
  unfold missedPocket
  rw [can]

theorem removeWaiting_of_out (out : p ∉ s.gas.waiting) : removeWaiting p s = s := if_neg out

theorem removeWaiting_of_waiting (listed : p ∈ s.gas.waiting) (waits : s.pockets[p].step = .waitCharge) :
    removeWaiting p s
      = setPocket p (missedPocket s.pockets[p]) { s with gas := { s.gas with waiting := s.gas.waiting.erase p } } :=
  (if_pos listed).trans (announceRemoval_of_waiting waits)

/-! ### Charge close (R52) -/

theorem chargesPocket_iff (p : PocketNo) (ch : Channel) : chargesPocket p ch = true ↔ ChargesFor p ch := by
  unfold chargesPocket
  rw [Bool.and_eq_true, decide_eq_true_iff, decide_eq_true_iff]

/-- The turn of one channel at the charge close of a pocket. -/
def closeFor (p : PocketNo) (c : ChannelNo) (s : State) : State :=
  if chargesPocket p s.gas.channels[c] then closeCharge c .forced s else s

theorem closeFor_of_not_charging (other : ¬ ChargesFor p s.gas.channels[c]) : closeFor p c s = s :=
  if_neg fun charges => other ((chargesPocket_iff p _).mp charges)

theorem closeFor_of_charging (charges : ChargesFor p s.gas.channels[c]) : closeFor p c s = closeCharge c .forced s :=
  if_pos ((chargesPocket_iff p _).mpr charges)

theorem foldl_closeFor_of_none {l : List ChannelNo} (none_charges : ∀ c ∈ l, ¬ ChargesFor p s.gas.channels[c]) :
    l.foldl (fun s c => closeFor p c s) s = s := by
  induction l with
  | nil => rfl
  | cons c l ih =>
    obtain ⟨first, rest⟩ := List.forall_mem_cons.mp none_charges
    rw [List.foldl_cons, closeFor_of_not_charging first, ih rest]

/-- The channel that charges for the pocket closes, and no turn of another one does anything. -/
theorem foldl_closeFor_of_one {l : List ChannelNo} (once : l.Nodup) (mem : c ∈ l) (charges : ChargesFor p s.gas.channels[c])
    (alone : ∀ d, d ≠ c → ¬ ChargesFor p s.gas.channels[d]) :
    l.foldl (fun s c => closeFor p c s) s = closeCharge c .forced s := by
  induction l with
  | nil => cases mem
  | cons d l ih =>
    obtain ⟨out, once⟩ := List.nodup_cons.mp once
    rw [List.foldl_cons]
    by_cases same : d = c
    · subst same
      rw [closeFor_of_charging charges]
      refine foldl_closeFor_of_none fun e inside => ?_
      have ne : d ≠ e := fun same => out (same ▸ inside)
      rw [getElem_closeCharge_ne ne]
      exact alone e ne.symm
    · rw [closeFor_of_not_charging (alone d same)]
      exact ih once ((List.mem_cons.mp mem).resolve_left (Ne.symm same))

theorem chargeCloseCrossing_of_none (none_charges : ∀ c : ChannelNo, ¬ ChargesFor p s.gas.channels[c]) :
    chargeCloseCrossing p s = s := foldl_closeFor_of_none fun c _ => none_charges c

theorem chargeCloseCrossing_of_one (charges : ChargesFor p s.gas.channels[c])
    (alone : ∀ d, d ≠ c → ¬ ChargesFor p s.gas.channels[d]) : chargeCloseCrossing p s = closeCharge c .forced s :=
  foldl_closeFor_of_one (List.nodup_finRange 4) (List.mem_finRange c) charges alone

/-- Settles O24: one equation for each crossing and step. -/
theorem cupSeatAndChargeCrossingsActByStep : Obligations.CupSeatAndChargeCrossingsActByStep := by
  unfold Obligations.CupSeatAndChargeCrossingsActByStep
  intro p r s k charges can
  refine ⟨cupCheckCrossing_of_other, fun unmarked loaded cup => ?cup, fun unmarked loaded bare => ?noCup,
    seatCrossing_of_other, seatCrossing_of_cupped, fun unmarked cupped => chargeOpenCrossing_of_cupped unmarked cupped can,
    chargeOpenCrossing_of_other, fun unmarked seated runs out busy => ?waits, fun unmarked seated not_run not_drain => ?missed,
    removeWaiting_of_out, fun listed waits => ?removed, chargeCloseCrossing_of_none, fun c => chargeCloseCrossing_of_one⟩
  case cup => rw [cupCheckCrossing_of_loaded unmarked loaded, if_pos cup]
  case noCup =>
    rw [cupCheckCrossing_of_loaded unmarked loaded, bare, if_neg Bool.false_ne_true, addPocketReasons_of_can _ can]
    rfl
  case waits =>
    rw [chargeOpenCrossing_of_seated unmarked seated, joinWaiting_of_open (s := setPocket p _ s) runs out]
    exact grantSearch_of_busy (s := { setPocket p { k with seatWatch := false, step := .waitCharge } s with
      gas := { s.gas with waiting := s.gas.waiting ++ [p] } }) busy
  case missed =>
    have waits : (setPocket p { k with seatWatch := false, step := .waitCharge } s).pockets[p]
        = { k with seatWatch := false, step := .waitCharge } := getElem_setPocket_self p _ s
    rw [chargeOpenCrossing_of_seated unmarked seated, joinWaiting_of_shut (s := setPocket p _ s) not_run not_drain,
      announceRemoval_of_waiting (by rw [waits]), waits, setPocket_setPocket,
      missedPocket_of_can (k := { k with seatWatch := false, step := .waitCharge }) can]
    rfl
  case removed =>
    rw [removeWaiting_of_waiting listed waits, missedPocket_of_can can]
    rfl

end Sys2Proof.Machine
end

section
/-! PROOF. R41, R72 to R74, R77, R82: the crimp start and the crimp measure of a pocket. -/

namespace Sys2Proof.Machine

variable {s : State} {p : PocketNo} {b : Binding} {r : CanRecord} {st : Stroke} {peak : Nat}

/-! ### The stroke opens (R72, R82) -/

/-- A CONFIRMED stroke that finds the jaw closed (R74). -/
abbrev JawAlready (b : Binding) (jawClosed : Bool) : Prop := b.jawMode = .confirmed ∧ jawClosed = true

theorem openedStroke_eq (kind : StrokeKind) (b : Binding) (jawClosed : Bool) :
    openedStroke kind b jawClosed =
      { kind := kind, jawMode := b.jawMode, jawTime := b.jawTime,
        condition := if JawAlready b jawClosed then .closed else .waiting,
        jawTimer := if JawAlready b jawClosed then none else some b.jawTime,
        capture := (openedStroke kind b jawClosed).capture } := by
  unfold openedStroke
  simp only [Bool.and_eq_true, decide_eq_true_eq]

theorem openedStroke_condition (kind : StrokeKind) (b : Binding) (jawClosed : Bool) :
    (openedStroke kind b jawClosed).condition = .closed ↔ JawAlready b jawClosed := by
  rw [openedStroke_eq]
  dsimp only
  split
  case isTrue already => exact ⟨fun _ => already, fun _ => rfl⟩
  case isFalse other => exact ⟨nofun, fun already => absurd already other⟩

/-- A package for the can in a pocket, written behind a change of the pocket that leaves its can. -/
theorem deliver_setPocket {k : Pocket} {write : CanRecord → CanRecord} (can : k.content = .can r) :
    deliver p (canId r) write (setPocket p k s) = setPocket p { k with content := .can (write r) } s := by
  have held := getElem_setPocket_self p k s
  rw [deliver_of_can (by rw [held]; exact can), held, setPocket_setPocket]

/-- The head with a stroke opened. -/
def strokeOpened (p : PocketNo) (kind : StrokeKind) (b : Binding) (s : State) : State :=
  setCrimp p { s.crimp[p] with jawClosed := true, stroke := some (openedStroke kind b s.inputs.jawClosed[p]) } s

theorem openCanStroke_of_can (can : s.pockets[p].content = .can r) :
    openCanStroke p b (canId r) s = setPocket p
      { s.pockets[p] with
        step := .crimping,
        content := .can (if JawAlready b s.inputs.jawClosed[p] then { r with jawClosePhase := some b.phases.crimpStart } else r) }
      (strokeOpened p (.can (canId r)) b s) := by
  have opened : openCanStroke p b (canId r) s
      = if (openedStroke (.can (canId r)) b s.inputs.jawClosed[p]).condition = .closed then
          deliver p (canId r) (fun r => { r with jawClosePhase := some b.phases.crimpStart })
            (setPocket p { s.pockets[p] with step := .crimping } (strokeOpened p (.can (canId r)) b s))
        else setPocket p { s.pockets[p] with step := .crimping } (strokeOpened p (.can (canId r)) b s) := rfl
  rw [opened]
  by_cases already : JawAlready b s.inputs.jawClosed[p]
  · rw [if_pos ((openedStroke_condition _ _ _).mpr already), if_pos already]
    exact deliver_setPocket can
  · rw [if_neg (mt (openedStroke_condition _ _ _).mp already), if_neg already, ← can]

/-! ### Crimp start (R41, R72, R73, R82) -/

theorem crimpStartCrossing_of_can (charged : s.pockets[p].step = .charged) (unmarked : s.pockets[p].halted = false)
    (can : s.pockets[p].content = .can r) :
    crimpStartCrossing p b s = if s.inputs.cupPresent[p] then openCanStroke p b (canId r) s
      else deliver p (canId r) (withReasons [.heightLow, .forceLow]) s := by
  unfold crimpStartCrossing
  rw [unmarked, if_neg Bool.false_ne_true, charged]
  dsimp only
  unfold startCrimp
  rw [can]

theorem crimpStartCrossing_of_pass (pass : s.pockets[p].step = .calPass) (unmarked : s.pockets[p].halted = false) :
    crimpStartCrossing p b s = strokeOpened p .calibration b s := by
  unfold crimpStartCrossing
  rw [unmarked, if_neg Bool.false_ne_true, pass]
  rfl

theorem crimpStartCrossing_of_other
    (other : (s.pockets[p].step ≠ .charged ∧ s.pockets[p].step ≠ .calPass) ∨ s.pockets[p].halted = true) :
    crimpStartCrossing p b s = s := by
  unfold crimpStartCrossing
  split
  case isTrue => rfl
  case isFalse unmarked =>
    obtain ⟨not_charged, not_pass⟩ := other.resolve_right unmarked
    split
    · contradiction
    · contradiction
    · rfl

/-! ### Crimp measure (R41, R77) -/

theorem crimpMeasureCrossing_of_idle (idle : s.crimp[p].stroke = none
    ∨ (s.pockets[p].step ≠ .crimping ∧ s.pockets[p].step ≠ .calPass) ∨ s.pockets[p].halted = true) :
    crimpMeasureCrossing p b s = s := by
  unfold crimpMeasureCrossing
  split
  case isTrue => rfl
  case isFalse unmarked =>
    split
    case h_1 => rfl
    case h_2 st stroke =>
      obtain ⟨not_crimping, not_pass⟩ := (idle.resolve_left (by rw [stroke]; exact nofun)).resolve_right unmarked
      split
      · contradiction
      · contradiction
      · rfl

theorem crimpMeasureCrossing_of_can (stroke : s.crimp[p].stroke = some st) (kind : st.kind = .can (canId r))
    (crimping : s.pockets[p].step = .crimping) (unmarked : s.pockets[p].halted = false) :
    crimpMeasureCrossing p b s = measureCan p b st (canId r) s := by
  unfold crimpMeasureCrossing
  rw [unmarked, if_neg Bool.false_ne_true, stroke]
  dsimp only
  rw [kind, crimping]

theorem crimpHeight_of_exact {raw offset : Int} {ix : Nat} (least : -32768 ≤ raw - offset) (most : raw - offset ≤ 32767) :
    crimpHeight raw offset ix = raw - offset := if_pos ⟨least, most⟩

/-- The can measured, its stroke ended. -/
theorem measureCan_shows (can : s.pockets[p].content = .can r) (capture : st.capture = some peak) :
    let height := crimpHeight s.inputs.displacement[p].toInt s.heads[p].zeroOffset s.freeIx
    (measureCan p b st (canId r) s).crimp[p].stroke = none
      ∧ (measureCan p b st (canId r) s).pockets[p] = { s.pockets[p] with
          step := .crimped,
          content := .can (withReasons (crimpReasons st height peak (recipeIn b.slot s))
            { r with height := some height, peakForce := some peak }) } := by
  intro height
  have force : st.capture.getD 0 = peak := by rw [capture]; rfl
  unfold measureCan
  dsimp only
  rw [force, deliver_of_can (s := { s with
    freeIx := heightIx s.inputs.displacement[p].toInt s.heads[p].zeroOffset s.freeIx }) can]
  refine ⟨congrArg CrimpHead.stroke (getElem_setCrimp_self p _ _), ?_⟩
  refine (getElem_setPocket_self p _ _).trans ?_
  exact congrArg (fun k : Pocket => { k with step := .crimped }) (getElem_setPocket_self p _ _)

/-- The reasons of a measurement with its recipe at hand. -/
theorem crimpReasons_of_recipe (st : Stroke) (height : Int) (peak : Nat) (q : Recipe) :
    crimpReasons st height peak (some q)
      = (if st.condition = .waiting then [.jawLate] else [])
        ++ (if height < q.heightLow then [.heightLow] else if (q.heightHigh : Int) < height then [.heightHigh] else [])
        ++ (if peak < q.forceLow then [.forceLow] else if q.forceHigh < peak then [.forceHigh] else []) := by
  unfold crimpReasons bandReasons
  simp only [Nat.cast_lt, List.append_assoc]

/-- Settles O25: the step and the mark of the pocket decide at both crossings, the cup and the stroke between them. -/
theorem crimpStartOpensTheStrokeAndMeasureJudgesIt : Obligations.CrimpStartOpensTheStrokeAndMeasureJudgesIt := by
  unfold Obligations.CrimpStartOpensTheStrokeAndMeasureJudgesIt
  refine ⟨fun p b s => ?start, fun p b s => crimpMeasureCrossing_of_idle,
    fun p b st q r peak s stroke kind capture crimping unmarked can recipe => ?measure⟩
  case start =>
    intro k already opened
    have stroke_opened (kind : StrokeKind) :
        strokeOpened p kind b s = opened kind (openedStroke kind b s.inputs.jawClosed[p]).capture := by
      unfold strokeOpened
      rw [openedStroke_eq]
    refine ⟨fun r charged unmarked can cup => ?stroke, fun r charged unmarked can bare => ?noCup, fun pass unmarked => ?pass,
      crimpStartCrossing_of_other⟩
    case stroke =>
      rw [crimpStartCrossing_of_can charged unmarked can, if_pos cup, openCanStroke_of_can can, stroke_opened]
      rfl
    case noCup =>
      rw [crimpStartCrossing_of_can charged unmarked can, bare, if_neg Bool.false_ne_true, deliver_of_can can]
      rfl
    case pass =>
      rw [crimpStartCrossing_of_pass pass unmarked, stroke_opened]
      rfl
  case measure =>
    intro raw exactly height reasons
    obtain ⟨ended, measured⟩ := measureCan_shows (b := b) can capture
    rw [crimpMeasureCrossing_of_can stroke kind crimping unmarked]
    refine ⟨crimpHeight_of_exact, ended, measured.trans ?_⟩
    rw [recipe, crimpReasons_of_recipe]
    rfl

end Sys2Proof.Machine
end

section
/-! SUPPORT. The lots at ADMIT and at ADMIT_CHECK (R140, R141, R146): which lot an event counts in, and what an offer and its
end leave of the changeover. -/

namespace Sys2Proof.Machine

variable {s t : State} {p : PocketNo} {lot : LotId} {l m : LotRecord} {plan : ChangePlan}

/-! ### The record of an open lot through the counting events (R141) -/

theorem openLot_congr (lots : t.lots = s.lots) (lot : LotId) : openLot lot t = openLot lot s := by
  unfold openLot
  rw [lots]

theorem openLot_lot (opened : openLot lot s = some l) : l.lot = lot := by
  unfold openLot at opened
  split at opened
  · split at opened
    case isTrue same => exact Option.some.inj opened ▸ same
    case isFalse => exact of_decide_eq_true (Option.filter_eq_some_iff.mp opened).2
  · exact of_decide_eq_true (Option.filter_eq_some_iff.mp opened).2

/-- An open lot is the current one, or the closing one where the current lot is another. -/
theorem openLot_eq_some_iff :
    openLot lot s = some l ↔ l.lot = lot
      ∧ (s.lots.current = some l ∨ (∀ k, s.lots.current = some k → k.lot ≠ lot) ∧ s.lots.closing = some l) := by
  have closing : (s.lots.closing.filter fun k => k.lot = lot) = some l ↔ l.lot = lot ∧ s.lots.closing = some l := by
    rw [Option.filter_eq_some_iff, decide_eq_true_iff, and_comm]
  unfold openLot
  cases current : s.lots.current with
  | none =>
    dsimp only
    rw [closing]
    simp
  | some k =>
    dsimp only
    split
    case isTrue same =>
      simp only [Option.some.injEq, forall_eq', ne_eq, same, not_true_eq_false, false_and, or_false]
      exact ⟨fun eq => ⟨eq ▸ same, eq⟩, fun both => both.2⟩
    case isFalse other =>
      rw [closing]
      simp only [Option.some.injEq, forall_eq', ne_eq, other, not_false_eq_true, true_and]
      refine and_congr_right fun named => ⟨.inr, fun either => either.resolve_left ?_⟩
      rintro rfl
      exact other named

/-- A record put back in the place of an open lot is that lot's record. -/
theorem openLot_putLot (opened : openLot lot s = some l) (same : m.lot = l.lot) : openLot lot (putLot m s) = some m := by
  have named := openLot_lot opened
  obtain ⟨-, current | ⟨other, closing⟩⟩ := openLot_eq_some_iff.mp opened
  · have isCurrent : isCurrent m.lot s = true := isCurrent_of_current current same.symm
    refine openLot_eq_some_iff.mpr ⟨same.trans named, .inl ?_⟩
    unfold putLot
    rw [isCurrent]
    rfl
  · have not_current : isCurrent m.lot s = false := isCurrent_of_other (by rw [same, named]; exact other)
    refine openLot_eq_some_iff.mpr ⟨same.trans named, .inr ⟨?_, ?_⟩⟩
    · unfold putLot
      rw [not_current]
      exact other
    · unfold putLot
      rw [not_current]
      rfl

/-- A lot with a can in flight or an offer standing does not close. -/
theorem openLot_settleLot (opened : openLot lot s = some l) (busy : l.inFlight ≠ 0 ∨ l.offers ≠ 0) :
    openLot lot (settleLot lot s) = some l := by
  obtain ⟨named, held⟩ := openLot_eq_some_iff.mp opened
  unfold settleLot
  split
  case h_2 => exact opened
  case h_1 q closing =>
    split
    case isFalse => exact opened
    case isTrue done =>
      rcases held with current | ⟨-, mine⟩
      · refine openLot_eq_some_iff.mpr ⟨named, .inl ?_⟩
        rw [commitClosing_lots]
        exact current
      · obtain rfl := Option.some.inj (closing.symm.trans mine)
        exact absurd busy (not_or.mpr ⟨not_not.mpr done.2.1, not_not.mpr done.2.2⟩)

theorem countAdmission_openLot (opened : openLot lot s = some l) (below : l.admitted < 4294967295) :
    openLot lot (countAdmission lot s)
      = some { l with admitted := l.admitted + 1, inFlight := l.inFlight + 1, offers := l.offers - 1 } := by
  unfold countAdmission countEvent
  rw [opened]
  dsimp only
  rw [raiseCount_of_below below]
  refine openLot_settleLot ?_ (.inl (Nat.succ_ne_zero _))
  exact openLot_putLot opened rfl

/-- No lot that closes has this id. -/
abbrev ClosingApart (lot : LotId) (s : State) : Prop :=
  s.lots.closing = none ∨ ∃ q, s.lots.closing = some q ∧ q.lot ≠ lot

theorem current_of_apart (apart : ClosingApart lot s) (opened : openLot lot s = some l) : s.lots.current = some l := by
  obtain ⟨named, current | ⟨-, closing⟩⟩ := openLot_eq_some_iff.mp opened
  · exact current
  · rcases apart with bare | ⟨q, other_closing, ne⟩
    · exact nomatch bare.symm.trans closing
    · obtain rfl := Option.some.inj (other_closing.symm.trans closing)
      exact absurd named ne

theorem settleLot_of_apart (apart : ClosingApart lot s) : settleLot lot s = s := by
  unfold settleLot
  rcases apart with bare | ⟨q, closing, ne⟩
  · rw [bare]
  · rw [closing]
    exact if_neg fun done => ne done.1

theorem putLot_of_current (current : s.lots.current = some l) (same : m.lot = l.lot) :
    putLot m s = { s with lots := { s.lots with current := some m } } :=
  if_pos (isCurrent_of_current current same.symm)

theorem countAdmission_of_apart (apart : ClosingApart lot s) (opened : openLot lot s = some l)
    (below : l.admitted < 4294967295) :
    countAdmission lot s = { s with lots := { s.lots with
      current := some { l with admitted := l.admitted + 1, inFlight := l.inFlight + 1, offers := l.offers - 1 } } } := by
  have sameIx : raiseIx l.admitted s.freeIx = s.freeIx := if_pos below
  unfold countAdmission countEvent
  rw [opened]
  dsimp only
  rw [raiseCount_of_below below, sameIx, putLot_of_current (m := { l with
    admitted := l.admitted + 1, inFlight := l.inFlight + 1, offers := l.offers - 1 }) (current_of_apart apart opened) rfl]
  exact settleLot_of_apart (s := { s with lots := { s.lots with current := _ } }) apart

theorem countNoCan_of_apart (apart : ClosingApart lot s) (opened : openLot lot s = some l) :
    countNoCan lot s = { s with lots := { s.lots with current := some { l with offers := l.offers - 1 } } } := by
  unfold countNoCan
  rw [opened]
  dsimp only
  rw [putLot_of_current (m := { l with offers := l.offers - 1 }) (current_of_apart apart opened) rfl]
  exact settleLot_of_apart (s := { s with lots := { s.lots with current := _ } }) apart

/-! ### The counted offers (R146) -/

/-- The changeover after a pocket left the counted offers set. -/
def leftCounted (p : PocketNo) (canSeen : Bool) (c : Changeover) : Changeover :=
  match c with
  | .armed plan n counted => .armed plan (if counted[p] && !canSeen then n + 1 else n) (counted.set p false)
  | other => other

theorem leaveCounted_eq (p : PocketNo) (canSeen : Bool) (s : State) :
    leaveCounted p canSeen s = { s with lots := { s.lots with changeover := leftCounted p canSeen s.lots.changeover } } := by
  have kept {c : Changeover} (same : s.lots.changeover = c) : s = { s with lots := { s.lots with changeover := c } } := by
    rw [← same]
  unfold leaveCounted leftCounted
  cases change : s.lots.changeover with
  | none => exact kept change
  | switching plan => exact kept change
  | armed plan n counted =>
    dsimp only
    cases counts : counted[p] with
    | true => cases canSeen <;> rfl
    | false =>
      have unmarked : counted.set p false = counted := by
        rw [← counts]
        exact Vector.set_getElem_self p.isLt
      rw [unmarked]
      exact kept change

/-! ### The offer (R140, R146) -/

/-- The register after its closing lot was judged at the boundary (R146). -/
def boundarySettled (r : LotRegister) : LotRegister :=
  match r.closing with
  | some l =>
    if l.inFlight = 0 ∧ l.offers = 0 then
      { r with closing := none, lastClosed := some l, changeover := .none, lastOutcome := some .committed }
    else r
  | none => r

theorem settleBoundary_lots (s : State) : (settleBoundary s).lots = boundarySettled s.lots := by
  unfold settleBoundary boundarySettled
  cases s.lots.closing with
  | none => rfl
  | some l =>
    dsimp only
    split
    · exact commitClosing_lots l s
    · rw [sendReport_lots]

theorem boundaryOffer_lots (plan : ChangePlan) (s : State) :
    (boundaryOffer plan s).lots = boundarySettled (boundaryLots plan s) := by
  rw [boundaryOffer_eq, settleBoundary_lots, refreshSlots_lots]

theorem offerLot_of_not_armed (bare : ∀ plan n counted, s.lots.changeover ≠ .armed plan n counted) :
    offerLot p s = raiseOffers s := by
  unfold offerLot
  split
  case h_1 plan n counted armed => exact absurd armed (bare plan n counted)
  case h_2 => rfl

/-- The lots after an offer follow from the lots and the recipes before it. -/
theorem offerLot_lots_congr (lots : t.lots = s.lots) (recipes : t.recipes = s.recipes) :
    (offerLot p t).lots = (offerLot p s).lots := by
  have boundary (plan : ChangePlan) : boundaryLots plan t = boundaryLots plan s := by
    unfold boundaryLots newLot generationOf
    rw [lots, recipes]
  have raised : (raiseOffers t).lots = (raiseOffers s).lots := by
    unfold raiseOffers
    rw [lots]
  unfold offerLot
  rw [lots]
  split
  · split
    · rw [boundaryOffer_lots, boundaryOffer_lots, boundary]
    · dsimp only
      rw [raised]
  · exact raised

end Sys2Proof.Machine
end

section
/-! PROOF. R19 to R25: the ADMIT crossing and the ADMIT_CHECK crossing. -/

namespace Sys2Proof.Machine

variable {s t : State} {p : PocketNo} {b : Binding} {l : LotRecord}

/-! ### ADMIT (R19 to R23) -/

/-- The state after the trace buffer was asked, where it was (R20, R126). -/
def queried (p : PocketNo) (s : State) : State := if offerable p s then noteQuery s else s

theorem admitCrossing_of_idle (idle : s.pockets[p].step = .idle) :
    admitCrossing p s = if offerable p s && hasSpace s then offerCan p (queried p s) else passEmpty p (queried p s) := by
  unfold admitCrossing queried
  rw [if_neg (not_not.mpr idle)]
  cases offerable p s with
  | false => rfl
  | true => cases hasSpace s <;> rfl

theorem noteQuery_rest (s : State) : noteQuery s = { s with trace := (noteQuery s).trace, link := (noteQuery s).link } := by
  unfold noteQuery
  split
  · rw [sendReport_eq]
  · rfl

theorem queried_rest (p : PocketNo) (s : State) :
    queried p s = { s with trace := (queried p s).trace, link := (queried p s).link } := by
  unfold queried
  split
  · exact noteQuery_rest s
  · rfl

theorem queried_of_not_offerable (other : offerable p s = false) : queried p s = s := if_neg (by rw [other]; decide)

/-- The binding of a pocket to a lot (R19). -/
def boundTo (lot : Option LotRecord) (s : State) : Option Binding := lot.bind fun l => bindingTo l.slot l.lot s

theorem emptyPassBinding_eq (s : State) : emptyPassBinding s = boundTo s.lots.current s := rfl

theorem boundTo_congr (recipes : t.recipes = s.recipes) (lot : Option LotRecord) : boundTo lot t = boundTo lot s := by
  unfold boundTo bindingTo recipeIn generationOf
  rw [recipes]

/-- The binding does not read the counts of the lot. -/
theorem boundTo_raised (lot : Option LotRecord) (s : State) :
    boundTo (lot.map fun l => { l with offers := l.offers + 1 }) s = boundTo lot s := by cases lot <;> rfl

/-- The lots offered to the pocket, with the infeed gate open. -/
def lotOffered (p : PocketNo) (s : State) : State := offerLot p { s with infeedGate := true }

theorem offerCan_eq (p : PocketNo) (s : State) :
    offerCan p s = setPocket p { (lotOffered p s).pockets[p] with
      step := .offered, binding := emptyPassBinding (lotOffered p s) } (lotOffered p s) := rfl

theorem lotOffered_counted (p : PocketNo) (s : State) : Counted { s with infeedGate := true } (lotOffered p s) :=
  offerLot_counted p _

theorem lotOffered_lots (p : PocketNo) (s : State) : (lotOffered p s).lots = (offerLot p s).lots :=
  offerLot_lots_congr rfl rfl

theorem lotOffered_of_not_armed (bare : ∀ plan n counted, s.lots.changeover ≠ .armed plan n counted) :
    lotOffered p s = { s with
      infeedGate := true,
      lots := { s.lots with current := s.lots.current.map fun l => { l with offers := l.offers + 1 } } } :=
  offerLot_of_not_armed (s := { s with infeedGate := true }) bare

section Offer

variable (idle : s.pockets[p].step = .idle)
include idle

theorem getElem_lotOffered : (lotOffered p s).pockets[p] = s.pockets[p] :=
  (lotOffered_counted p s).pocket p (by rw [idle]; exact nofun)

/-- A pocket offered a can: its record, and what the offer leaves. -/
theorem offerCan_shows :
    (offerCan p s).pockets[p] = { s.pockets[p] with
        step := .offered, binding := boundTo (offerCan p s).lots.current s }
      ∧ (offerCan p s).infeedGate = true ∧ (offerCan p s).lots = (offerLot p s).lots
      ∧ (offerCan p s).trace = s.trace := by
  have elsewhere := (lotOffered_counted p s).elsewhere
  have recipes : (lotOffered p s).recipes = s.recipes := by rw [elsewhere]
  have trace : (lotOffered p s).trace = s.trace := by rw [elsewhere]
  have gate : (lotOffered p s).infeedGate = true := by rw [elsewhere]
  rw [offerCan_eq]
  refine ⟨?_, gate, lotOffered_lots p s, trace⟩
  rw [getElem_setPocket_self, getElem_lotOffered idle, emptyPassBinding_eq, boundTo_congr recipes]
  rfl

theorem offerCan_of_not_armed (bare : ∀ plan n counted, s.lots.changeover ≠ .armed plan n counted) :
    offerCan p s = setPocket p { s.pockets[p] with step := .offered, binding := boundTo s.lots.current s } { s with
      infeedGate := true,
      lots := { s.lots with current := s.lots.current.map fun l => { l with offers := l.offers + 1 } } } := by
  rw [offerCan_eq, getElem_lotOffered idle, emptyPassBinding_eq, lotOffered_of_not_armed bare, boundTo_raised]
  rfl

end Offer

/-- A pocket passed on empty, with its binding and the infeed gate closed. -/
def passed (p : PocketNo) (s : State) : State :=
  setPocket p { s.pockets[p] with binding := boundTo s.lots.current s } { s with infeedGate := false }

/-- Whether an empty pass begins the calibration revolution of its head (R22). -/
abbrev Reseats (p : PocketNo) (s : State) : Prop :=
  s.heads[p].state = .reseatPending ∧ (s.line.state = .run ∨ s.line.state = .drain) ∧ s.pockets[p].content = .empty

theorem runOrDrain_iff (state : LineState) : runOrDrain state = true ↔ state = .run ∨ state = .drain := by
  cases state <;> decide

theorem passEmpty_cond :
    (passed p s).heads[p].state = .reseatPending ∧ runOrDrain (passed p s).line.state ∧ (passed p s).pockets[p].content = .empty
      ↔ Reseats p s := by
  have pocket : (passed p s).pockets[p].content = s.pockets[p].content := by
    unfold passed
    rw [getElem_setPocket_self]
  rw [pocket, runOrDrain_iff]
  rfl

theorem passEmpty_of_not_reseats (other : ¬ Reseats p s) : passEmpty p s = passed p s :=
  if_neg (mt passEmpty_cond.mp other)

theorem passEmpty_of_reseats (reseats : Reseats p s) :
    passEmpty p s = startReseat p (setPocket p { (passed p s).pockets[p] with step := .calPass } (passed p s)) :=
  if_pos (passEmpty_cond.mpr reseats)

/-- A pocket on its calibration revolution: its record, its head, and what the start leaves. -/
theorem passEmpty_shows_of_reseats (reseats : Reseats p s) :
    (passEmpty p s).pockets[p] = { s.pockets[p] with step := .calPass, binding := boundTo s.lots.current s }
      ∧ (passEmpty p s).heads[p].state = .reseating ∧ (passEmpty p s).infeedGate = false
      ∧ (passEmpty p s).lots = s.lots ∧ (passEmpty p s).trace = s.trace := by
  have pocket : (passed p s).pockets[p] = { s.pockets[p] with binding := boundTo s.lots.current s } :=
    getElem_setPocket_self p _ _
  rw [passEmpty_of_reseats reseats, startReseat, getElem_moveHead_self, moveHead_eq, pocket]
  exact ⟨getElem_setPocket_self p _ _, rfl, rfl, rfl, rfl⟩

/-! ### Admit check (R24, R25) -/

theorem admitCheckCrossing_of_other (other : s.pockets[p].step ≠ .offered) : admitCheckCrossing p b s = s := if_neg other

theorem admitCheckCrossing_of_seen (offered : s.pockets[p].step = .offered) (seen : s.inputs.canPresent[p] = true) :
    admitCheckCrossing p b s = admitCan p b s := (if_pos offered).trans (if_pos seen)

theorem admitCheckCrossing_of_missed (offered : s.pockets[p].step = .offered) (missed : s.inputs.canPresent[p] = false) :
    admitCheckCrossing p b s = missCan p b s := (if_pos offered).trans (if_neg (by rw [missed]; decide))

/-- The lots with the can of a pocket counted in. -/
def canCounted (p : PocketNo) (b : Binding) (s : State) : State := leaveCounted p true (countAdmission b.lot s)

/-- A pocket that takes a can (R24). -/
def takenPocket (p : PocketNo) (b : Binding) (serial : Nat) (overspeed : Bool) (k : Pocket) : Pocket :=
  { k with content := .can (newCan p b serial overspeed k.halted), step := .loaded }

theorem admitCan_eq (p : PocketNo) (b : Binding) (s : State) :
    admitCan p b s = setPocket p (takenPocket p b (nextSerial b.lot s) (canCounted p b s).position.overspeedOpen
      (canCounted p b s).pockets[p]) (canCounted p b s) := rfl

theorem canCounted_counted (p : PocketNo) (b : Binding) (s : State) : Counted s (canCounted p b s) :=
  (countAdmission_counted _ s).trans (leaveCounted_counted _ _ _)

theorem canCounted_overspeedOpen (p : PocketNo) (b : Binding) (s : State) :
    (canCounted p b s).position.overspeedOpen = s.position.overspeedOpen := by
  rw [(canCounted_counted p b s).elsewhere]

theorem nextSerial_of_open (opened : openLot b.lot s = some l) (below : l.admitted < 4294967295) :
    nextSerial b.lot s = l.admitted + 1 := by
  unfold nextSerial
  rw [opened]
  exact raiseCount_of_below below _

theorem admitCan_of_open (offered : s.pockets[p].step = .offered) (opened : openLot b.lot s = some l)
    (below : l.admitted < 4294967295) :
    admitCan p b s = setPocket p (takenPocket p b (l.admitted + 1) s.position.overspeedOpen s.pockets[p])
      (canCounted p b s) := by
  have pocket := (canCounted_counted p b s).pocket p (by rw [offered]; exact nofun)
  rw [admitCan_eq, nextSerial_of_open opened below, pocket, canCounted_overspeedOpen]

theorem openLot_leaveCounted (p : PocketNo) (seen : Bool) (lot : LotId) (s : State) :
    openLot lot (leaveCounted p seen s) = openLot lot s := by
  rw [leaveCounted_eq]
  rfl

theorem canCounted_of_apart (apart : ClosingApart b.lot s) (opened : openLot b.lot s = some l)
    (below : l.admitted < 4294967295) :
    canCounted p b s = { s with lots := { s.lots with
      current := some { l with admitted := l.admitted + 1, inFlight := l.inFlight + 1, offers := l.offers - 1 },
      changeover := leftCounted p true s.lots.changeover } } := by
  unfold canCounted
  rw [leaveCounted_eq, countAdmission_of_apart apart opened below]

/-- A pocket without a can: IDLE and unmarked (R25). -/
def missedOffer (p : PocketNo) (s : State) : State := setPocket p { s.pockets[p] with step := .idle, halted := false } s

theorem missCan_eq (p : PocketNo) (b : Binding) (s : State) :
    missCan p b s = countNoCan b.lot (leaveCounted p false (missedOffer p s)) := rfl

theorem getElem_missCan (p : PocketNo) (b : Binding) (s : State) :
    (missCan p b s).pockets[p] = { s.pockets[p] with step := .idle, halted := false } := by
  have counted : Counted (missedOffer p s) (missCan p b s) :=
    (leaveCounted_counted _ _ _).trans (countNoCan_counted _ _)
  have pocket : (missedOffer p s).pockets[p] = { s.pockets[p] with step := .idle, halted := false } :=
    getElem_setPocket_self p _ s
  exact (counted.pocket p (by rw [pocket]; exact nofun)).trans pocket

theorem missCan_of_apart (apart : ClosingApart b.lot s) (opened : openLot b.lot s = some l) :
    missCan p b s = setPocket p { s.pockets[p] with step := .idle, halted := false } { s with lots := { s.lots with
      current := some { l with offers := l.offers - 1 }, changeover := leftCounted p false s.lots.changeover } } := by
  rw [missCan_eq, leaveCounted_eq]
  exact countNoCan_of_apart (s := { missedOffer p s with lots := { s.lots with
    changeover := leftCounted p false s.lots.changeover } }) apart opened

/-- Settles O23: at ADMIT the query of the trace buffer and its answer choose between offer and empty pass; at ADMIT_CHECK
the can present chooses between admission and an offer that ends. -/
theorem admitOffersToFitPocketsAndAdmitCheckTakesTheCan :
    Obligations.AdmitOffersToFitPocketsAndAdmitCheckTakesTheCan := by
  unfold Obligations.AdmitOffersToFitPocketsAndAdmitCheckTakesTheCan
  refine ⟨fun p s idle => ?offering, fun p b s => ?check⟩
  case offering =>
    intro k asked fill flight offered space u bound reseats t
    have asked_eq : offerable p s = asked := rfl
    have space_eq : hasSpace s = space := rfl
    have asks : queried p s = u := by
      unfold queried noteQuery
      rw [asked_eq, space_eq]
      dsimp only [u]
      cases asked with
      | false => rfl
      | true => exact (if_pos rfl).trans (if_congr (by rw [Bool.true_and, beq_iff_eq, eq_comm]) rfl rfl)
    have crosses : t = if asked && space then offerCan p u else passEmpty p u := by
      rw [← asks]
      exact admitCrossing_of_idle idle
    have rest := queried_rest p s
    rw [asks] at rest
    have pockets : u.pockets = s.pockets := by rw [rest]
    have heads : u.heads = s.heads := by rw [rest]
    have line : u.line = s.line := by rw [rest]
    have lots : u.lots = s.lots := by rw [rest]
    have recipes : u.recipes = s.recipes := by rw [rest]
    have bound_eq (lot : Option LotRecord) : boundTo lot u = bound lot := boundTo_congr recipes lot
    refine ⟨fun is_asked has_space => ?offers, fun refused => ?passes⟩
    case offers =>
      have offers : t = offerCan p u := crosses.trans (by rw [is_asked, has_space]; rfl)
      have u_idle : u.pockets[p].step = .idle := by rw [pockets]; exact idle
      obtain ⟨pocket, gate, offered, trace⟩ := offerCan_shows u_idle
      rw [pockets, bound_eq] at pocket
      rw [offers]
      refine ⟨pocket, gate, offered.trans (offerLot_lots_congr lots recipes), trace, fun bare => ?_⟩
      rw [offerCan_of_not_armed u_idle (by rw [lots]; exact bare), pockets, bound_eq, lots]
    case passes =>
      have passes : t = passEmpty p u := crosses.trans (if_neg fun both => by
        rw [Bool.and_eq_true] at both
        rcases refused with not_asked | no_space
        · exact Bool.false_ne_true (not_asked.symm.trans both.1)
        · exact Bool.false_ne_true (no_space.symm.trans both.2))
      have reseats_iff : Reseats p u ↔ reseats := by
        unfold Reseats
        rw [heads, line, pockets]
      rw [passes]
      refine ⟨fun other => ?pass, fun begins => ?reseat⟩
      case pass =>
        rw [passEmpty_of_not_reseats (mt reseats_iff.mp other), passed, pockets, bound_eq, lots]
      case reseat =>
        have not_asked : asked = false := by
          rw [← asked_eq]
          unfold offerable
          rw [begins.1]
          exact Bool.and_false _
        have unasked : u = s := asks.symm.trans (queried_of_not_offerable not_asked)
        rw [unasked] at reseats_iff bound_eq ⊢
        obtain ⟨pocket, head, gate, kept, trace⟩ := passEmpty_shows_of_reseats (reseats_iff.mpr begins)
        rw [bound_eq] at pocket
        exact ⟨pocket, head, gate, kept, trace⟩
  case check =>
    intro k t
    refine ⟨admitCheckCrossing_of_other, fun l offered seen opened below => ?seen, fun l offered missed opened => ?missed⟩
    case seen =>
      intro episode mark taken
      have admits : t = setPocket p taken (canCounted p b s) :=
        (admitCheckCrossing_of_seen offered seen).trans (admitCan_of_open offered opened below)
      rw [admits]
      refine ⟨getElem_setPocket_self p _ _, ?_, fun apart => ?_⟩
      · exact (openLot_leaveCounted p true b.lot _).trans (countAdmission_openLot opened below)
      · rw [canCounted_of_apart apart opened below]
        refine ⟨rfl, rfl, fun plan n counted armed => ?_⟩
        change leftCounted p true s.lots.changeover = _
        rw [armed, leftCounted, Bool.not_true, Bool.and_false]
        rfl
    case missed =>
      have misses : t = missCan p b s := admitCheckCrossing_of_missed offered missed
      rw [misses]
      refine ⟨getElem_missCan p b s, fun apart => ?_⟩
      rw [missCan_of_apart apart opened]
      have named : l.lot = b.lot := openLot_lot opened
      refine ⟨rfl, openLot_of_current rfl named, rfl, fun plan n counted armed => ?_⟩
      change leftCounted p false s.lots.changeover = _
      rw [armed, leftCounted, Bool.not_false, Bool.and_true]

end Sys2Proof.Machine
end

section
/-! PROOF. R110, R111, R116 to R122: the trail at a pitch-boundary crossing. -/

namespace Sys2Proof.Machine

variable {s t : State} {e : TrailEntry} {rest a b : List TrailEntry} {pitch : Word32} {r : CanRecord} {lot : LotId}
  {l : LotRecord} {d : Disposition}

/-! ### The record of an arrival (R122, R127) -/

/-- The record that an arrival leaves. -/
def arrivalRecord (e : TrailEntry) (d : Disposition) (pitch : Word32) (s : State) : TraceRecord :=
  { number := s.trace.nextNumber, disposition := d, lane := e.lane.getD .hold, kind := e.kind,
    dischargePitch := e.dischargePitch, gatePitch := pitch, weight := e.weight }

/-- A record joins the buffer, and beyond it there are reports alone. -/
theorem createRecord_eq (e : TrailEntry) (d : Disposition) (pitch : Word32) (s : State) :
    createRecord e d pitch s = { s with
      trace := { s.trace with records := s.trace.records ++ [arrivalRecord e d pitch s],
                              nextNumber := nextRecordNumber s.trace.nextNumber },
      link := (createRecord e d pitch s).link } := by
  unfold createRecord
  dsimp only
  split
  · rw [sendReport_eq]
    rfl
  · split
    · rw [sendReport_eq]
      rfl
    · rfl

/-! ### The can counted in its lot (R120, R141) -/

/-- A lot with one can landed with a disposition. -/
def landed (d : Disposition) (l : LotRecord) : LotRecord :=
  match d with
  | .accept => { l with accepted := l.accepted + 1, inFlight := l.inFlight - 1 }
  | .scrap => { l with scrapped := l.scrapped + 1, inFlight := l.inFlight - 1 }
  | .hold => { l with held := l.held + 1, inFlight := l.inFlight - 1 }
  | .missing => { l with missing := l.missing + 1, inFlight := l.inFlight - 1 }

theorem countEvent_openLot_of_apart {count : LotRecord → Nat} {write : Nat → LotRecord → LotRecord}
    (apart : ClosingApart lot s) (opened : openLot lot s = some l) (below : count l < 4294967295)
    (named : (write (count l + 1) l).lot = l.lot) :
    openLot lot (countEvent lot count write s) = some (write (count l + 1) l) := by
  have put := putLot_of_current (current_of_apart apart opened) named
  have apart_put : ClosingApart lot { putLot (write (count l + 1) l) s with freeIx := raiseIx (count l) s.freeIx } := by
    rw [put]
    exact apart
  unfold countEvent
  rw [opened]
  dsimp only
  rw [raiseCount_of_below below, settleLot_of_apart apart_put]
  exact openLot_putLot opened named

theorem countArrival_openLot (apart : ClosingApart lot s) (opened : openLot lot s = some l) (accepted : l.accepted < 4294967295)
    (scrapped : l.scrapped < 4294967295) (held : l.held < 4294967295) (missing : l.missing < 4294967295) :
    openLot lot (countArrival lot d s) = some (landed d l) := by
  cases d with
  | accept => exact countEvent_openLot_of_apart apart opened accepted rfl
  | scrap => exact countEvent_openLot_of_apart apart opened scrapped rfl
  | hold => exact countEvent_openLot_of_apart apart opened held rfl
  | missing => exact countEvent_openLot_of_apart apart opened missing rfl

/-! ### Arrivals (R110, R119 to R121) -/

/-- An entry due at the gate at a pitch. -/
abbrev DueAt (s : State) (pitch : Word32) (e : TrailEntry) : Prop :=
  e.dischargePitch + BitVec.ofNat 32 s.config.gateDistance = pitch

/-- The trail once the entries due have left it, its latch read. -/
def entriesLeft (pitch : Word32) (rest : List TrailEntry) (s : State) : State :=
  { s with trail := { s.trail with
    eyeLatch := false,
    entries := rest.filter fun x => x.dischargePitch + BitVec.ofNat 32 s.config.gateDistance ≠ pitch } }

theorem arrivals_of_due (entries : s.trail.entries = e :: rest) (due : DueAt s pitch e) :
    arrivals pitch s = arrive e s.trail.eyeLatch pitch (entriesLeft pitch rest s) := by
  have found : ((e :: rest).find? fun x => x.dischargePitch + BitVec.ofNat 32 s.config.gateDistance = pitch) = some e :=
    List.find?_cons_of_pos (decide_eq_true due)
  have leaves : ((e :: rest).filter fun x => ¬ x.dischargePitch + BitVec.ofNat 32 s.config.gateDistance = pitch)
      = rest.filter fun x => x.dischargePitch + BitVec.ofNat 32 s.config.gateDistance ≠ pitch :=
    List.filter_cons_of_neg fun stays => of_decide_eq_true stays due
  unfold arrivals
  dsimp only
  rw [entries, found]
  dsimp only
  rw [leaves]
  rfl

theorem arrivals_of_none (none_due : ∀ x ∈ s.trail.entries, ¬ DueAt s pitch x) :
    arrivals pitch s = if s.trail.eyeLatch then sendReport (.strayCan pitch) { s with trail := { s.trail with eyeLatch := false } }
      else { s with trail := { s.trail with eyeLatch := false } } := by
  unfold arrivals
  dsimp only
  rw [List.find?_eq_none.mpr fun x mem => mt of_decide_eq_true (none_due x mem)]

/-- What an entry that arrives gets: the disposition of its reasons where a can is seen, and MISSING where none is. -/
def arrivalDisposition (seen : Bool) (r : CanRecord) : Disposition :=
  if seen then laneDisposition (laneOf r.reasons) else .missing

/-- A can that arrives: recorded and counted, and where it was not seen, missed with a report. -/
theorem arrive_of_can (real : e.kind = .real r) (seen : Bool) :
    arrive e seen pitch s =
      let u := countArrival r.lot (arrivalDisposition seen r) (createRecord e (arrivalDisposition seen r) pitch s)
      if seen then u else sendReport (.canMissing pitch (canId r) r.pocket) u := by
  unfold arrive
  rw [real]
  cases seen <;> rfl

theorem arrive_of_purge {p : PocketNo} {rs : Reasons} (purge : e.kind = .purge p rs) (seen : Bool) :
    arrive e seen pitch s = if seen then createRecord e .hold pitch s else s := by
  unfold arrive
  rw [purge]

/-- The count of an arrival leaves trail and trace buffer. -/
theorem countArrival_trail_trace (lot : LotId) (d : Disposition) (s : State) :
    (countArrival lot d s).trail = s.trail ∧ (countArrival lot d s).trace = s.trace := by
  rw [(countArrival_counted lot d s).elsewhere]
  exact ⟨rfl, rfl⟩

/-- What a can that arrives leaves in trail, trace buffer and lots. -/
theorem arrive_shows_of_can (real : e.kind = .real r) (seen : Bool) :
    let t := arrive e seen pitch s
    t.trail = s.trail
      ∧ t.trace = { s.trace with records := s.trace.records ++ [arrivalRecord e (arrivalDisposition seen r) pitch s],
                                 nextNumber := nextRecordNumber s.trace.nextNumber }
      ∧ ∀ lot, openLot lot t = openLot lot (countArrival r.lot (arrivalDisposition seen r)
          (createRecord e (arrivalDisposition seen r) pitch s)) := by
  obtain ⟨trail, trace⟩ := countArrival_trail_trace r.lot (arrivalDisposition seen r)
    (createRecord e (arrivalDisposition seen r) pitch s)
  have recorded := createRecord_eq e (arrivalDisposition seen r) pitch s
  have recorded_trail := congrArg State.trail recorded
  have recorded_trace := congrArg State.trace recorded
  dsimp only
  rw [arrive_of_can real]
  cases seen with
  | true => exact ⟨trail.trans recorded_trail, trace.trans recorded_trace, fun _ => rfl⟩
  | false =>
    dsimp only
    rw [if_neg Bool.false_ne_true, sendReport_trail, sendReport_trace]
    exact ⟨trail.trans recorded_trail, trace.trans recorded_trace, openLot_congr (sendReport_lots _ _)⟩

theorem openLot_createRecord (lot : LotId) (d : Disposition) : openLot lot (createRecord e d pitch s) = openLot lot s :=
  openLot_congr (by rw [createRecord_eq]) lot

/-! ### The gate command (R116) -/

/-- A can record with the weight noted as missing where one was awaited (R116). -/
def weightNoted (e : TrailEntry) (s : State) (r : CanRecord) : CanRecord :=
  if e.weight = none ∧ s.config.weigherDistance ≠ 0 ∧ (recipeIn r.slot s).bind (·.weightBand) ≠ none then
    { r with reasons := addReason r.reasons .weightMissing } else r

theorem missWeight_of_real (real : e.kind = .real r) :
    missWeight e s = { e with kind := .real (weightNoted e s r) } := by
  have awaited : (e.weight = none ∧ s.config.weigherDistance ≠ 0 ∧ (weightBandOf r s).isSome = true)
      ↔ (e.weight = none ∧ s.config.weigherDistance ≠ 0 ∧ (recipeIn r.slot s).bind (·.weightBand) ≠ none) := by
    rw [Option.isSome_iff_ne_none]
    rfl
  unfold missWeight weightNoted
  rw [real]
  dsimp only
  split
  case isTrue waits =>
    rw [if_pos (awaited.mp waits)]
    unfold markEntry
    rw [real]
    rfl
  case isFalse other => rw [if_neg (mt awaited.mpr other), ← real]

theorem missWeight_of_purge {p : PocketNo} {rs : Reasons} (purge : e.kind = .purge p rs) : missWeight e s = e := by
  unfold missWeight
  rw [purge]

/-- An entry due at the next pitch (R110). -/
abbrev DueNext (s : State) (pitch : Word32) (e : TrailEntry) : Prop :=
  e.dischargePitch + BitVec.ofNat 32 s.config.gateDistance - 1 = pitch

theorem commandNext_of_none (none_due : ∀ x ∈ s.trail.entries, ¬ DueNext s pitch x) :
    commandNext pitch s = commandGate .hold none s := by
  unfold commandNext
  rw [List.find?_eq_none.mpr fun x mem => mt of_decide_eq_true (none_due x mem)]

theorem commandNext_of_due (entries : s.trail.entries = a ++ e :: b) (due : DueNext s pitch e)
    (first : ∀ x ∈ a, ¬ DueNext s pitch x) : commandNext pitch s = commandEntry e s := by
  have found : (s.trail.entries.find? fun x => x.dischargePitch + BitVec.ofNat 32 s.config.gateDistance - 1 = pitch) = some e :=
    List.find?_eq_some_iff_append.mpr ⟨decide_eq_true due, a, b, entries, fun x mem => by simpa using first x mem⟩
  unfold commandNext
  rw [found]

/-- The gate commanded for the entry as it stands after its missing weight was noted. -/
theorem commandEntry_eq {kind : EntryKind} (noted : missWeight e s = { e with kind := kind }) :
    commandEntry e s = commandGate (entryLane { e with kind := kind }) (some e.dischargePitch)
      { s with trail := { s.trail with entries := s.trail.entries.map fun x =>
        if x.dischargePitch = e.dischargePitch then { e with kind := kind, lane := some (entryLane { e with kind := kind }) }
        else x } } := by
  unfold commandEntry
  rw [noted]
  rfl

/-- Settles O30: latch, arrivals and command in turn, each by the entry that its test finds. -/
theorem trailCrossingArrivesAndCommandsTheGate : Obligations.TrailCrossingArrivesAndCommandsTheGate := by
  unfold Obligations.TrailCrossingArrivesAndCommandsTheGate
  refine ⟨fun _ => rfl, fun e rest pitch s entries due => ?arrives, fun pitch s none_due => ⟨fun latch => ?stray, fun dark => ?quiet⟩,
    fun pitch s => ?commands⟩
  case arrives =>
    intro t left record next
    have arrives : t = arrive e s.trail.eyeLatch pitch (entriesLeft pitch rest s) := arrivals_of_due entries due
    refine ⟨fun r real => ?can, fun p rs purge => ?purge⟩
    case can =>
      intro d
      obtain ⟨trail, trace, lots⟩ := arrive_shows_of_can (s := entriesLeft pitch rest s) (pitch := pitch) real s.trail.eyeLatch
      rw [arrives]
      refine ⟨trail, trace, fun l bare opened accepted scrapped held missing => ?_, fun dark => ?_⟩
      · rw [lots]
        exact countArrival_openLot (.inl (by rw [createRecord_eq]; exact bare)) ((openLot_createRecord _ _).trans opened)
          accepted scrapped held missing
      · rw [dark, arrive_of_can real]
        rfl
    case purge =>
      rw [arrives]
      refine ⟨fun seen => ?_, fun dark => ?_⟩
      · rw [seen, arrive_of_purge purge, if_pos rfl, createRecord_eq]
        exact ⟨rfl, rfl, rfl⟩
      · rw [dark, arrive_of_purge purge]
        rfl
  case stray => rw [arrivals_of_none none_due, if_pos latch]
  case quiet =>
    have kept : ({ s with trail := { s.trail with eyeLatch := false } } : State) = s := by rw [← dark]
    rw [arrivals_of_none none_due, dark, if_neg Bool.false_ne_true, kept]
  case commands =>
    intro due commanded
    refine ⟨fun none_due => ?hold, fun a e b entries is_due first => ?lane⟩
    case hold => exact commandNext_of_none none_due
    case lane =>
      intro written
      have commands : commandNext pitch s = commandEntry e s := commandNext_of_due entries is_due first
      refine ⟨fun p rs purge => ?purgeLane, fun r real => ?canLane⟩
      case purgeLane =>
        rw [commands, commandEntry_eq (kind := e.kind) (missWeight_of_purge purge)]
        have lane : entryLane { e with kind := e.kind } = .hold := by
          unfold entryLane
          rw [purge]
        rw [lane]
        rfl
      case canLane =>
        intro band awaited r' lane
        rw [commands, commandEntry_eq (missWeight_of_real real)]
        rfl

end Sys2Proof.Machine
end

section
/-! PROOF. R1, R8, R10, R11: the forward encoder step. -/

namespace Sys2Proof.Machine

variable {s : State} {p : PocketNo} {b : Binding} {phase : Nat} {order : List Nat}

/-! ### The hand-off order (log 6) -/

/-- Erasing the later copies of a list's values leaves no value twice. -/
theorem nodup_eraseDups (l : List Nat) : l.eraseDups.Nodup := by
  match l with
  | [] => exact List.nodup_nil
  | a :: l =>
    rw [List.eraseDups_cons]
    refine List.nodup_cons.mpr ⟨fun mem => ?_, nodup_eraseDups _⟩
    have kept := (List.mem_filter.mp (List.mem_eraseDups.mp mem)).2
    simp at kept
termination_by l.length
decreasing_by exact Nat.lt_succ_of_le (List.length_filter_le _ _)

theorem eraseDups_of_nodup {l : List Nat} (once : l.Nodup) : l.eraseDups = l := by
  induction l with
  | nil => rfl
  | cons a l ih =>
    obtain ⟨out, once⟩ := List.nodup_cons.mp once
    have kept : l.filter (fun b => !b == a) = l := by
      refine List.filter_eq_self.mpr fun b mem => ?_
      have ne : b ≠ a := fun same => out (same ▸ mem)
      simp [ne]
    rw [List.eraseDups_cons, kept, ih once]

theorem mem_handOffOrder (order : List Nat) (i : Nat) : i ∈ handOffOrder order ↔ i ∈ List.range 25 := by
  unfold handOffOrder
  rw [List.mem_eraseDups, List.mem_append, List.mem_filter, List.mem_range, decide_eq_true_iff]
  omega

theorem handOffOrder_perm (order : List Nat) : (handOffOrder order).Perm (List.range 25) :=
  (List.perm_ext_iff_of_nodup (nodup_eraseDups _) List.nodup_range).mpr (mem_handOffOrder order)

/-- A well-formed order begins the hand-offs as it stands. -/
theorem handOffOrder_prefix (wf : orderWellFormed order = true) : order <+: handOffOrder order := by
  obtain ⟨inside, once⟩ := Bool.and_eq_true_iff.mp wf
  have kept : order.filter (· ≤ 24) = order := List.filter_eq_self.mpr (List.all_eq_true.mp inside)
  unfold handOffOrder
  rw [kept, List.eraseDups_append, eraseDups_of_nodup (of_decide_eq_true once)]
  exact List.prefix_append _ _

/-! ### The crossing of a pocket at a phase (R8) -/

theorem pocketCrossing_of_unbound (not_admit : phase ≠ 0) (not_discharge : phase ≠ 2520) (unbound : s.pockets[p].binding = none) :
    pocketCrossing p phase s = s := by
  unfold pocketCrossing
  rw [if_neg not_admit, if_neg not_discharge, unbound]

theorem pocketCrossing_of_bound (not_admit : phase ≠ 0) (not_discharge : phase ≠ 2520)
    (bound : s.pockets[p].binding = some b) : pocketCrossing p phase s = recipeCrossing p b phase s := by
  unfold pocketCrossing
  rw [if_neg not_admit, if_neg not_discharge, bound]

/-- A phase that is none of the binding's is no crossing. -/
theorem recipeCrossing_of_other (other : phase ∉ phaseList b.phases) : recipeCrossing p b phase s = s := by
  simp only [phaseList, List.mem_cons, List.not_mem_nil, or_false, not_or] at other
  obtain ⟨admission, cup, seat, opens, latest, closes, start, measure, release⟩ := other
  unfold recipeCrossing
  rw [if_neg admission, if_neg cup, if_neg seat, if_neg opens, if_neg latest, if_neg closes, if_neg start, if_neg measure,
    if_neg release]

/-- The nine phases of a recipe rise strictly. -/
theorem phases_rise {α : PhasesOf Nat} (rise : (phaseList α).Pairwise (· < ·)) :
    α.admitCheck < α.cupCheck ∧ α.cupCheck < α.seat ∧ α.seat < α.chargeOpen ∧ α.chargeOpen < α.chargeLatest
      ∧ α.chargeLatest < α.chargeClose ∧ α.chargeClose < α.crimpStart ∧ α.crimpStart < α.crimpMeasure
      ∧ α.crimpMeasure < α.release := by
  simp only [phaseList, List.pairwise_cons, List.mem_cons, List.not_mem_nil, or_false, forall_eq_or_imp, forall_eq] at rise
  omega

/-- With rising phases each crossing is met at its own phase. -/
theorem recipeCrossing_at_phases (rise : (phaseList b.phases).Pairwise (· < ·)) :
    recipeCrossing p b b.phases.admitCheck s = admitCheckCrossing p b s
      ∧ recipeCrossing p b b.phases.cupCheck s = cupCheckCrossing p s
      ∧ recipeCrossing p b b.phases.seat s = seatCrossing p s
      ∧ recipeCrossing p b b.phases.chargeOpen s = chargeOpenCrossing p s
      ∧ recipeCrossing p b b.phases.chargeLatest s = removeWaiting p s
      ∧ recipeCrossing p b b.phases.chargeClose s = chargeCloseCrossing p s
      ∧ recipeCrossing p b b.phases.crimpStart s = crimpStartCrossing p b s
      ∧ recipeCrossing p b b.phases.crimpMeasure s = crimpMeasureCrossing p b s
      ∧ recipeCrossing p b b.phases.release s = releaseCrossing p s := by
  have order := phases_rise rise
  refine ⟨?_, ?_, ?_, ?_, ?_, ?_, ?_, ?_, ?_⟩
  all_goals
    unfold recipeCrossing
    repeat rw [if_neg (by omega)]
    exact if_pos rfl

/-! ### The step (R1, R3) -/

theorem exec_forwardEncoderStep (e : Nat) (ins : List SampledInput) (order : List Nat) (s : State) :
    exec (.forwardEncoderStep e ins order) s = .next (finish (forwardStep order (elapse e (sampleInputs ins s)))) := rfl

theorem forwardStep_of_backlash (deep : s.position.backlash ≠ 0) : forwardStep order s = recover (noteMotion s) := if_neg deep

theorem highWater_recovered {h d : Nat} (deep : d ≠ 0) : ((h + 1) % 2880 + (d - 1)) % 2880 = (h + d) % 2880 := by omega

/-- The state after an advancing step was counted, before its crossings. -/
def stepCounted (s : State) : State :=
  { s with position := { s.position with
    standstill := false, standstillTimer := some 500, position := (s.position.position + 1) % 2880,
    stepCount := countedSteps s.position, stallTimer := s.position.stallTimer.map fun _ => s.config.stallTime } }

theorem forwardStep_of_advance (flat : s.position.backlash = 0) (short : s.position.stepCount < 2888) :
    forwardStep order s = if s.position.sync = .synced then crossings order (stepCounted s) else stepCounted s := by
  have below : takeStepLimit (noteMotion s) = noteMotion s := takeStepLimit_of_below short
  refine (if_pos flat).trans ?_
  unfold advance
  rw [below]
  rfl

theorem countedSteps_of_synced (synced : s.position.sync = .synced) (short : s.position.stepCount < 2888) :
    countedSteps s.position = s.position.stepCount + 1 := by
  unfold countedSteps
  rw [synced]
  exact min_eq_right (by omega)

theorem countedSteps_of_not_synced (apart : s.position.sync ≠ .synced) (short : s.position.stepCount < 2888) :
    countedSteps s.position = if s.position.sync = .provisional then s.position.stepCount + 1 else 0 := by
  unfold countedSteps
  cases sync : s.position.sync with
  | synced => exact absurd sync apart
  | provisional => exact min_eq_right (by omega)
  | unsynced => rfl
  | faulted => rfl

/-! ### A step without a crossing (R8) -/

theorem checkDrain_of_open (stays : ¬ (s.line.state = .drain ∧ pocketsEmpty s = true ∧ s.trail.entries = [])) :
    checkDrain s = s := if_neg stays

/-- The phases of a high-water are as far from the pitch boundaries as it is. -/
theorem phaseAt_mod {h : Nat} (off : h % 120 ≠ 0) (p : PocketNo) : phaseAt h p % 120 ≠ 0 := by
  have inside := p.isLt
  unfold phaseAt
  omega

/-- Off the pitch boundaries, with no pocket at a phase of its binding, no hand-off does anything. -/
theorem crossings_of_none (off : s.position.position % 120 ≠ 0)
    (none_crosses : ∀ (p : PocketNo) (b : Binding), s.pockets[p].binding = some b →
      phaseAt s.position.position p ∉ phaseList b.phases)
    (stays : ¬ (s.line.state = .drain ∧ pocketsEmpty s = true ∧ s.trail.entries = [])) : crossings order s = s := by
  have rests (i : Nat) : handOff s i = s := by
    unfold handOff
    by_cases inside : i < 24
    case neg => rw [dif_neg inside, if_neg off]
    case pos =>
      have phase := phaseAt_mod off ⟨i, inside⟩
      have not_admit : phaseAt s.position.position ⟨i, inside⟩ ≠ 0 := fun at_admit => phase (by rw [at_admit])
      have not_discharge : phaseAt s.position.position ⟨i, inside⟩ ≠ 2520 := fun at_discharge => phase (by rw [at_discharge])
      have crosses : pocketCrossing ⟨i, inside⟩ (phaseAt s.position.position ⟨i, inside⟩) s = s := by
        cases binding : (s.pockets[(⟨i, inside⟩ : PocketNo)]).binding with
        | none => exact pocketCrossing_of_unbound not_admit not_discharge binding
        | some b =>
          exact (pocketCrossing_of_bound not_admit not_discharge binding).trans
            (recipeCrossing_of_other (none_crosses _ b binding))
      rw [dif_pos inside, crosses, checkDrain_of_open stays]
  unfold crossings
  rw [if_neg off]
  exact List.foldl_fixed' rests _

/-- Settles O8: the branches of `forwardStep`, the order of its hand-offs, and the crossing that each phase names. -/
theorem forwardStepCountsAndHandsOnItsCrossings : Obligations.ForwardStepCountsAndHandsOnItsCrossings := by
  unfold Obligations.ForwardStepCountsAndHandsOnItsCrossings
  intro handOn
  refine ⟨fun e ins ord s => ?recovers, fun e ins ord s => ?counts, fun e ins ord s => ?crosses,
    fun ord => ⟨handOffOrder_perm ord, handOffOrder_prefix⟩,
    fun p s => ⟨rfl, rfl, fun phase => pocketCrossing_of_unbound, fun b bound rise inside => ?phases⟩⟩
  case recovers =>
    intro u pc deep
    rw [exec_forwardEncoderStep, forwardStep_of_backlash deep]
    exact ⟨rfl, highWater_recovered deep⟩
  case counts =>
    intro u flat apart short
    rw [exec_forwardEncoderStep, forwardStep_of_advance flat short, if_neg apart]
    unfold stepCounted
    rw [countedSteps_of_not_synced apart short]
  case crosses =>
    intro u h v boundary flat synced short
    have counted : stepCounted u = v := by
      unfold stepCounted
      rw [countedSteps_of_synced synced short]
    rw [exec_forwardEncoderStep, forwardStep_of_advance flat short, if_pos synced, counted]
    refine ⟨rfl, fun off none_crosses stays => ?_⟩
    rw [crossings_of_none (s := v) off none_crosses stays]
  case phases =>
    have within (x : Nat) (mem : x ∈ phaseList b.phases) : pocketCrossing p x s = recipeCrossing p b x s :=
      pocketCrossing_of_bound (Nat.pos_iff_ne_zero.mp (inside x mem).1) (inside x mem).2.ne bound
    obtain ⟨admission, cup, seat, opens, latest, closes, start, measure, release⟩ :=
      recipeCrossing_at_phases (p := p) (s := s) rise
    refine ⟨(within _ ?_).trans admission, (within _ ?_).trans cup, (within _ ?_).trans seat, (within _ ?_).trans opens,
      (within _ ?_).trans latest, (within _ ?_).trans closes, (within _ ?_).trans start, (within _ ?_).trans measure,
      (within _ ?_).trans release, fun phase not_admit not_discharge other =>
        (pocketCrossing_of_bound not_admit not_discharge bound).trans (recipeCrossing_of_other other)⟩
    all_goals simp [phaseList]

end Sys2Proof.Machine
end

section
/-! SUPPORT. The moments of passing time (R61, R64): when one comes, what it acts on, and that their number is bounded. -/

namespace Sys2Proof.Machine

variable {s t : State} {c d : ChannelNo} {us w : Nat}

/-! ### The next moment -/

theorem earlier_eq_some {a b : Option Nat} (h : earlier a b = some w) : a = some w ∨ b = some w := by
  cases a with
  | none => exact .inr h
  | some x =>
    cases b with
    | none => exact .inl h
    | some y =>
      obtain rfl := Option.some.inj h
      rcases Nat.le_total x y with le | le
      · exact .inl (congrArg some (Nat.min_eq_left le).symm)
      · exact .inr (congrArg some (Nat.min_eq_right le).symm)

theorem earlier_of_either {a b : Option Nat} (h : a = some w ∨ b = some w) : ∃ x, earlier a b = some x ∧ x ≤ w := by
  cases a with
  | none =>
    rcases h with h | h
    · cases h
    · exact ⟨w, h, Nat.le_refl w⟩
  | some x =>
    cases b with
    | none =>
      rcases h with h | h
      · exact ⟨w, h, Nat.le_refl w⟩
      · cases h
    | some y =>
      refine ⟨min x y, rfl, ?_⟩
      rcases h with h | h
      · exact Option.some.inj h ▸ Nat.min_le_left x y
      · exact Option.some.inj h ▸ Nat.min_le_right x y

section Fold

variable {α : Type} {g : α → Option Nat}

theorem foldl_earlier_eq_some {l : List α} {a : Option Nat} (h : l.foldl (fun d x => earlier d (g x)) a = some w) :
    a = some w ∨ ∃ x ∈ l, g x = some w := by
  induction l generalizing a with
  | nil => exact .inl h
  | cons x l ih =>
    rcases ih h with first | ⟨y, mem, found⟩
    · rcases earlier_eq_some first with found | found
      · exact .inl found
      · exact .inr ⟨x, List.mem_cons_self, found⟩
    · exact .inr ⟨y, List.mem_cons_of_mem _ mem, found⟩

theorem foldl_earlier_of_either {l : List α} {a : Option Nat} (h : a = some w ∨ ∃ x ∈ l, g x = some w) :
    ∃ y, l.foldl (fun d x => earlier d (g x)) a = some y ∧ y ≤ w := by
  induction l generalizing a w with
  | nil =>
    rcases h with h | ⟨x, mem, -⟩
    · exact ⟨w, h, Nat.le_refl w⟩
    · cases mem
  | cons x l ih =>
    rw [List.foldl_cons]
    rcases h with first | ⟨y, mem, found⟩
    · obtain ⟨v, now, le⟩ := earlier_of_either (b := g x) (.inl first)
      obtain ⟨y, last, le'⟩ := ih (.inl now)
      exact ⟨y, last, le'.trans le⟩
    · rcases List.mem_cons.mp mem with rfl | mem
      · obtain ⟨v, now, le⟩ := earlier_of_either (a := a) (.inr found)
        obtain ⟨y, last, le'⟩ := ih (.inl now)
        exact ⟨y, last, le'.trans le⟩
      · exact ih (.inr ⟨y, mem, found⟩)

end Fold

/-- The next moment is one of a channel. -/
theorem nextMoment_eq_some (h : nextMoment s = some w) :
    ∃ c : ChannelNo, tareWait s s.gas.channels[c] = some w ∨ creepWait s s.gas.channels[c] = some w := by
  rcases foldl_earlier_eq_some (g := fun ch => earlier (tareWait s ch) (creepWait s ch)) h with none_some | ⟨ch, mem, found⟩
  · cases none_some
  · obtain ⟨i, inside, rfl⟩ := Vector.mem_iff_getElem.mp (Vector.mem_toList_iff.mp mem)
    exact ⟨⟨i, inside⟩, earlier_eq_some found⟩

/-- No channel's moment comes before the next one. -/
theorem nextMoment_le (h : tareWait s s.gas.channels[c] = some w ∨ creepWait s s.gas.channels[c] = some w) :
    ∃ d, nextMoment s = some d ∧ d ≤ w := by
  obtain ⟨x, found, le⟩ := earlier_of_either h
  obtain ⟨y, first, le'⟩ := foldl_earlier_of_either (g := fun ch => earlier (tareWait s ch) (creepWait s ch)) (a := none)
    (.inr ⟨_, Vector.mem_toList_iff.mpr (Vector.getElem_mem c.isLt), found⟩)
  exact ⟨y, first, le'.trans le⟩

/-! ### The waits of a channel -/

/-- The tare interval time in µs (R61). -/
abbrev tareInterval (s : State) : Nat := s.config.tareIntervalTime * 1000000

theorem tareWait_of_running {ch : Channel} (running : tareClockRuns ch.state = true) (early : ch.tareDue = false) :
    tareWait s ch = some (tareInterval s - ch.timeSinceTare) := by
  unfold tareWait
  rw [running, early]
  rfl

theorem tareWait_of_held {ch : Channel} (held : tareClockRuns ch.state = false ∨ ch.tareDue = true) :
    tareWait s ch = none := by
  unfold tareWait
  refine if_neg ?_
  rcases held with held | due
  · rw [held]
    exact Bool.false_ne_true
  · rw [due, Bool.not_true, Bool.and_false]
    exact Bool.false_ne_true

/-- A tare waits while the clock runs and it is not due. -/
theorem tareWait_eq_some_iff {ch : Channel} :
    tareWait s ch = some w
      ↔ tareClockRuns ch.state = true ∧ ch.tareDue = false ∧ tareInterval s - ch.timeSinceTare = w := by
  constructor
  · intro waits
    cases running : tareClockRuns ch.state with
    | false => exact nomatch (tareWait_of_held (.inl running)).symm.trans waits
    | true =>
      cases due : ch.tareDue with
      | true => exact nomatch (tareWait_of_held (.inr due)).symm.trans waits
      | false => exact ⟨rfl, rfl, Option.some.inj ((tareWait_of_running running due).symm.trans waits)⟩
  · rintro ⟨running, early, rfl⟩
    exact tareWait_of_running running early

theorem creepWait_of_idle {ch : Channel} {at' : Nat} {mg : Int} {rest : List (Nat × Int)} (idle : ch.state = .idle)
    (window : ch.creepWindow = (at', mg) :: rest) : creepWait s ch = some (at' + 1000001 - s.timebase) := by
  unfold creepWait
  rw [idle, window]

/-- A creep wait is that of the oldest increment of an IDLE channel. -/
theorem creepWait_eq_some {ch : Channel} (h : creepWait s ch = some w) :
    ch.state = .idle ∧ ∃ at' mg rest, ch.creepWindow = (at', mg) :: rest ∧ at' + 1000001 - s.timebase = w := by
  unfold creepWait at h
  split at h
  case h_1 at' mg rest idle window => exact ⟨idle, at', mg, rest, window, Option.some.inj h⟩
  case h_2 => cases h

theorem tareWait_congr (config : t.config = s.config) (ch : Channel) : tareWait t ch = tareWait s ch := by
  unfold tareWait
  rw [config]

/-! ### The clock -/

theorem getElem_passClock (us : Nat) (s : State) (c : ChannelNo) :
    (passClock us s).gas.channels[c] = clockedChannel us s.gas.channels[c] := Vector.getElem_map _ c.isLt

theorem clockedChannel_of_running {ch : Channel} (running : tareClockRuns ch.state = true) :
    clockedChannel us ch = { ch with timeSinceTare := min 4294967295000 (ch.timeSinceTare + us) } := if_pos running

theorem clockedChannel_of_held {ch : Channel} (held : tareClockRuns ch.state = false) : clockedChannel us ch = ch :=
  if_neg (by rw [held]; exact Bool.false_ne_true)

/-- The clock moves the time since tare alone. -/
theorem clockedChannel_eq (us : Nat) (ch : Channel) :
    clockedChannel us ch = { ch with timeSinceTare := (clockedChannel us ch).timeSinceTare } := by
  unfold clockedChannel
  split <;> rfl

theorem clockedChannel_keeps (us : Nat) (ch : Channel) :
    (clockedChannel us ch).state = ch.state ∧ (clockedChannel us ch).tareDue = ch.tareDue
      ∧ (clockedChannel us ch).creepWindow = ch.creepWindow := by
  rw [clockedChannel_eq]
  exact ⟨rfl, rfl, rfl⟩

/-! ### The turn of one channel in a moment -/

theorem fallDue_of_not (rests : tareWait s s.gas.channels[c] ≠ some 0) : fallDue c s = s := if_neg rests

theorem fallDue_of_due (due : tareWait s s.gas.channels[c] = some 0) :
    fallDue c s = if s.gas.channels[c].state = .idle then
        tareStart (queueTare c (setChannel c { s.gas.channels[c] with tareDue := true } s))
      else setChannel c { s.gas.channels[c] with tareDue := true } s := by
  unfold fallDue
  rw [if_pos due]
  unfold setTareDue modifyChannel
  dsimp only
  rw [getElem_setChannel_self]

theorem ageCreep_of_not (rests : creepWait s s.gas.channels[c] ≠ some 0) : ageCreep c s = s := if_neg rests

/-- The increments that have left a window at a timebase (R64). -/
def agedWindow (now : Nat) (l : List (Nat × Int)) : List (Nat × Int) := l.dropWhile fun i => i.1 + 1000000 < now

theorem ageCreep_of_aged (aged : creepWait s s.gas.channels[c] = some 0) :
    ageCreep c s = judgeCreep c (setChannel c { s.gas.channels[c] with
      creepWindow := agedWindow s.timebase s.gas.channels[c].creepWindow } s) := if_pos aged

/-- A channel beside the one that leaves service: as it was, or in TARE where the queue moved up to it. -/
theorem getElem_outOfService (c : ChannelNo) (ch : Channel) (d : ChannelNo) (s : State) :
    (outOfService c ch s).gas.channels[d] = (setChannel c ch s).gas.channels[d]
      ∨ (outOfService c ch s).gas.channels[d] = tareEntered (setChannel c ch s).gas.channels[d] := by
  have moved := getElem_tareStart d (reportChannel c (leaveTareQueue c (setChannel c ch s)))
  have kept : (reportChannel c (leaveTareQueue c (setChannel c ch s))).gas.channels[d] = (setChannel c ch s).gas.channels[d] := by
    rw [reportChannel_gas]
    rfl
  unfold outOfService
  rw [checkInService_gas]
  rwa [kept] at moved

/-! ### The number of moments -/

/-- How many moments a channel can still bring: one for its tare, and one for each increment of its window. -/
def momentsLeft (ch : Channel) : Nat :=
  (if tareClockRuns ch.state && !ch.tareDue then 1 else 0) + ch.creepWindow.length

/-- The moments left of all channels together. -/
def momentsOf (s : State) : Nat := ((List.finRange 4).map fun c => momentsLeft s.gas.channels[c]).sum

theorem momentsLeft_of_held {ch : Channel} (held : tareClockRuns ch.state = false ∨ ch.tareDue = true) :
    momentsLeft ch = ch.creepWindow.length := by
  have none_waits : ¬ (tareClockRuns ch.state && !ch.tareDue) = true := by
    rcases held with held | due
    · rw [held]
      exact Bool.false_ne_true
    · rw [due, Bool.not_true, Bool.and_false]
      exact Bool.false_ne_true
  unfold momentsLeft
  rw [if_neg none_waits, Nat.zero_add]

theorem length_le_momentsLeft (ch : Channel) : ch.creepWindow.length ≤ momentsLeft ch := Nat.le_add_left _ _

theorem momentsLeft_of_waiting {ch : Channel} (running : tareClockRuns ch.state = true) (early : ch.tareDue = false) :
    momentsLeft ch = ch.creepWindow.length + 1 := by
  unfold momentsLeft
  rw [running, early, Nat.add_comm]
  rfl

theorem momentsLeft_tareEntered (ch : Channel) : momentsLeft (tareEntered ch) ≤ momentsLeft ch :=
  (momentsLeft_of_held (.inl rfl)).trans_le (length_le_momentsLeft ch)

theorem momentsLeft_clockedChannel (us : Nat) (ch : Channel) : momentsLeft (clockedChannel us ch) = momentsLeft ch := by
  obtain ⟨state, due, window⟩ := clockedChannel_keeps us ch
  unfold momentsLeft
  rw [state, due, window]

/-- One channel with fewer moments left, and none with more. -/
theorem momentsOf_lt (le : ∀ d : ChannelNo, momentsLeft t.gas.channels[d] ≤ momentsLeft s.gas.channels[d])
    (lt : momentsLeft t.gas.channels[c] < momentsLeft s.gas.channels[c]) : momentsOf t < momentsOf s :=
  List.sum_lt_sum _ _ (fun d _ => le d) ⟨c, List.mem_finRange c, lt⟩

theorem momentsOf_congr (same : ∀ d : ChannelNo, momentsLeft t.gas.channels[d] = momentsLeft s.gas.channels[d]) :
    momentsOf t = momentsOf s := congrArg List.sum (List.map_congr_left fun d _ => same d)

/-- A channel with fewer moments left, and every other one as it was or in TARE. -/
theorem momentsOf_lt_of_turn {ch : Channel} (fewer : momentsLeft ch < momentsLeft s.gas.channels[c])
    (turned : ∀ d : ChannelNo, t.gas.channels[d] = (setChannel c ch s).gas.channels[d]
      ∨ t.gas.channels[d] = tareEntered (setChannel c ch s).gas.channels[d]) : momentsOf t < momentsOf s := by
  have le (d : ChannelNo) : momentsLeft t.gas.channels[d] ≤ momentsLeft (setChannel c ch s).gas.channels[d] := by
    rcases turned d with same | entered
    · rw [same]
    · rw [entered]
      exact momentsLeft_tareEntered _
  have mine := le c
  rw [getElem_setChannel_self] at mine
  refine momentsOf_lt (fun d => ?_) (mine.trans_lt fewer)
  by_cases same : c = d
  · subst same
    exact mine.trans fewer.le
  · have other := le d
    rwa [getElem_setChannel_ne same] at other

/-- A tare that falls due is one moment less. -/
theorem fallDue_fewer (due : tareWait s s.gas.channels[c] = some 0) : momentsOf (fallDue c s) < momentsOf s := by
  obtain ⟨running, early, -⟩ := tareWait_eq_some_iff.mp due
  have waits := momentsLeft_of_waiting running early
  rw [fallDue_of_due due]
  split
  case isTrue =>
    refine momentsOf_lt_of_turn (c := c) (ch := { s.gas.channels[c] with state := .tareWait, tareDue := true }) ?_ fun d => ?_
    · rw [waits, momentsLeft_of_held (.inl rfl)]
      exact Nat.lt_succ_self _
    · have queued : (queueTare c (setChannel c { s.gas.channels[c] with tareDue := true } s)).gas.channels[d]
          = (setChannel c { s.gas.channels[c] with state := .tareWait, tareDue := true } s).gas.channels[d] := by
        by_cases same : c = d
        · subst same
          rw [getElem_queueTare_self, getElem_setChannel_self, getElem_setChannel_self]
        · rw [getElem_queueTare_ne same, getElem_setChannel_ne same, getElem_setChannel_ne same]
      have moved := getElem_tareStart d (queueTare c (setChannel c { s.gas.channels[c] with tareDue := true } s))
      rwa [queued] at moved
  case isFalse =>
    refine momentsOf_lt_of_turn (c := c) (ch := { s.gas.channels[c] with tareDue := true }) ?_ fun d => .inl rfl
    rw [waits, momentsLeft_of_held (.inr rfl)]
    exact Nat.lt_succ_self _

theorem length_agedWindow_le (now : Nat) (l : List (Nat × Int)) : (agedWindow now l).length ≤ l.length :=
  (List.dropWhile_sublist _).length_le

theorem agedWindow_cons {now at' : Nat} (old : at' + 1000000 < now) (mg : Int) (l : List (Nat × Int)) :
    agedWindow now ((at', mg) :: l) = agedWindow now l :=
  List.dropWhile_cons_of_pos (p := fun i : Nat × Int => decide (i.1 + 1000000 < now)) (decide_eq_true old)

/-- A window that ages is at least one moment less. -/
theorem ageCreep_fewer (aged : creepWait s s.gas.channels[c] = some 0) : momentsOf (ageCreep c s) < momentsOf s := by
  obtain ⟨idle, at', mg, rest, window, gone⟩ := creepWait_eq_some aged
  have shorter : (agedWindow s.timebase s.gas.channels[c].creepWindow).length < s.gas.channels[c].creepWindow.length := by
    have old : at' + 1000000 < s.timebase := by omega
    rw [window, agedWindow_cons old]
    exact Nat.lt_succ_of_le (length_agedWindow_le s.timebase rest)
  have fewer (ch : Channel) (runs : tareClockRuns ch.state = false ∨ ch.state = s.gas.channels[c].state)
      (due : ch.tareDue = s.gas.channels[c].tareDue)
      (left : ch.creepWindow = agedWindow s.timebase s.gas.channels[c].creepWindow) :
      momentsLeft ch < momentsLeft s.gas.channels[c] := by
    rcases runs with held | state
    · rw [momentsLeft_of_held (.inl held), left]
      exact shorter.trans_le (length_le_momentsLeft _)
    · unfold momentsLeft
      rw [state, due, left]
      exact Nat.add_lt_add_left shorter _
  rw [ageCreep_of_aged aged]
  unfold judgeCreep
  split
  case isTrue =>
    rw [enterFault_eq_outOfService, getElem_setChannel_self]
    refine momentsOf_lt_of_turn (c := c) (fewer (faultedChannel .creep { s.gas.channels[c] with
      creepWindow := agedWindow s.timebase s.gas.channels[c].creepWindow }) (.inl rfl) rfl rfl) fun d => ?_
    have moved := getElem_outOfService c (faultedChannel .creep { s.gas.channels[c] with
      creepWindow := agedWindow s.timebase s.gas.channels[c].creepWindow }) d
      (setChannel c { s.gas.channels[c] with creepWindow := agedWindow s.timebase s.gas.channels[c].creepWindow } s)
    rwa [setChannel_setChannel] at moved
  case isFalse =>
    exact momentsOf_lt_of_turn (c := c) (fewer { s.gas.channels[c] with
      creepWindow := agedWindow s.timebase s.gas.channels[c].creepWindow } (.inr rfl) rfl rfl) fun d => .inl rfl

/-! ### A moment takes at least one -/

section Turns

variable {f : ChannelNo → State → State} {acts : ChannelNo → State → Prop}

/-- Turns of which none acts leave the state. -/
theorem turns_of_none (rests : ∀ c t, ¬ acts c t → f c t = t) {l : List ChannelNo} (none_acts : ∀ c ∈ l, ¬ acts c s) :
    l.foldl (fun s c => f c s) s = s := by
  induction l with
  | nil => rfl
  | cons c l ih =>
    obtain ⟨first, later⟩ := List.forall_mem_cons.mp none_acts
    rw [List.foldl_cons, rests c s first, ih later]

/-- Turns take at least the moment of one that acts, and never add one. -/
theorem turns_fewer (rests : ∀ c t, ¬ acts c t → f c t = t) (fewer : ∀ c t, acts c t → momentsOf (f c t) < momentsOf t)
    (l : List ChannelNo) (s : State) :
    momentsOf (l.foldl (fun s c => f c s) s) ≤ momentsOf s
      ∧ ((∃ c ∈ l, acts c s) → momentsOf (l.foldl (fun s c => f c s) s) < momentsOf s) := by
  induction l generalizing s with
  | nil => exact ⟨Nat.le_refl _, fun ⟨c, mem, _⟩ => nomatch mem⟩
  | cons c l ih =>
    rw [List.foldl_cons]
    obtain ⟨le, lt⟩ := ih (f c s)
    by_cases first : acts c s
    · have less := fewer c s first
      exact ⟨le.trans less.le, fun _ => le.trans_lt less⟩
    · rw [rests c s first] at le lt ⊢
      refine ⟨le, fun ⟨d, mem, later⟩ => ?_⟩
      rcases List.mem_cons.mp mem with rfl | mem
      · exact absurd later first
      · exact lt ⟨d, mem, later⟩

end Turns

/-- The channel whose tare falls due now. -/
abbrev FallsDue (c : ChannelNo) (s : State) : Prop := tareWait s s.gas.channels[c] = some 0

/-- The channel whose window ages now. -/
abbrev Ages (c : ChannelNo) (s : State) : Prop := creepWait s s.gas.channels[c] = some 0

/-- A moment: the tares that fall due, then the windows that age (log 32). -/
theorem moment_eq (s : State) : moment s = finish (forChannels ageCreep (forChannels fallDue s)) := rfl

theorem forChannels_fallDue_of_none (none_falls : ∀ c, ¬ FallsDue c s) : forChannels fallDue s = s :=
  turns_of_none (acts := FallsDue) (fun _ _ => fallDue_of_not) fun c _ => none_falls c

theorem forChannels_ageCreep_of_none (none_ages : ∀ c, ¬ Ages c s) : forChannels ageCreep s = s :=
  turns_of_none (acts := Ages) (fun _ _ => ageCreep_of_not) fun c _ => none_ages c

theorem momentsOf_finish (s : State) : momentsOf (finish s) = momentsOf s := by
  unfold momentsOf
  rw [finish_gas]

theorem moment_fewer (acts : ∃ c, FallsDue c s ∨ Ages c s) : momentsOf (moment s) < momentsOf s := by
  obtain ⟨due_le, due_lt⟩ := turns_fewer (acts := FallsDue) (fun _ _ => fallDue_of_not) (fun _ _ => fallDue_fewer)
    (List.finRange 4) s
  obtain ⟨aged_le, aged_lt⟩ := turns_fewer (acts := Ages) (fun _ _ => ageCreep_of_not) (fun _ _ => ageCreep_fewer)
    (List.finRange 4) (forChannels fallDue s)
  rw [moment_eq, momentsOf_finish]
  by_cases falls : ∃ c, FallsDue c s
  · obtain ⟨c, now⟩ := falls
    exact aged_le.trans_lt (due_lt ⟨c, List.mem_finRange c, now⟩)
  · have none_falls := forChannels_fallDue_of_none (not_exists.mp falls)
    obtain ⟨c, now⟩ := acts
    have ages := now.resolve_left fun due => falls ⟨c, due⟩
    rw [none_falls] at aged_lt ⊢
    exact aged_lt ⟨c, List.mem_finRange c, ages⟩

theorem momentsOf_passClock (us : Nat) (s : State) : momentsOf (passClock us s) = momentsOf s :=
  momentsOf_congr fun d => by rw [getElem_passClock, momentsLeft_clockedChannel]

/-- Where the clock can reach the interval, the next moment acts on a channel. -/
theorem acts_of_nextMoment (bounded : tareInterval s ≤ 4294967295000) (next : nextMoment s = some us) :
    ∃ c, FallsDue c (passClock us s) ∨ Ages c (passClock us s) := by
  obtain ⟨c, tare | creep⟩ := nextMoment_eq_some next
  · obtain ⟨running, early, wait⟩ := tareWait_eq_some_iff.mp tare
    refine ⟨c, .inl ?_⟩
    unfold FallsDue
    rw [getElem_passClock, clockedChannel_of_running running]
    refine tareWait_eq_some_iff.mpr ⟨running, early, ?_⟩
    change tareInterval s - min 4294967295000 (s.gas.channels[c].timeSinceTare + us) = 0
    omega
  · obtain ⟨idle, at', mg, rest, window, wait⟩ := creepWait_eq_some creep
    obtain ⟨state, -, kept⟩ := clockedChannel_keeps us s.gas.channels[c]
    refine ⟨c, .inr ?_⟩
    unfold Ages
    rw [getElem_passClock, creepWait_of_idle (state.trans idle) (kept.trans window)]
    change some (at' + 1000001 - (s.timebase + us)) = some 0
    refine congrArg some ?_
    omega

theorem moment_passClock_fewer (bounded : tareInterval s ≤ 4294967295000) (next : nextMoment s = some us) :
    momentsOf (moment (passClock us s)) < momentsOf s :=
  (moment_fewer (acts_of_nextMoment bounded next)).trans_eq (momentsOf_passClock us s)

theorem passTime_of_moment {n : Nat} (next : nextMoment s = some w) (within : w ≤ us) :
    passTime (n + 1) us s = passTime n (us - w) (moment (passClock w s)) := by
  rw [passTime, next]
  exact if_pos within

theorem passTime_of_quiet (never : ∀ w, nextMoment s = some w → us < w) (n : Nat) :
    passTime n us s = passClock us s := by
  cases n with
  | zero => rfl
  | succ n =>
    rw [passTime]
    cases next : nextMoment s with
    | none => rfl
    | some w => exact if_neg (Nat.not_le_of_lt (never w next))

/-- Time passes from moment to moment: what every moment keeps, and what the last stretch makes of it, holds at the end. -/
theorem passTime_reaches {P : Nat → State → Prop} {Q : State → Prop}
    (bounded : ∀ us t, P us t → tareInterval t ≤ 4294967295000)
    (step : ∀ us t d, P us t → nextMoment t = some d → d ≤ us → P (us - d) (moment (passClock d t)))
    (last : ∀ us t, P us t → (∀ d, nextMoment t = some d → us < d) → Q (passClock us t))
    {n : Nat} (enough : momentsOf t ≤ n) (start : P us t) : Q (passTime n us t) := by
  induction n generalizing us t with
  | zero =>
    refine last us t start fun d next => ?_
    have fewer := (moment_passClock_fewer (bounded us t start) next).trans_le enough
    exact absurd fewer (Nat.not_lt_zero _)
  | succ n ih =>
    by_cases within : ∃ d, nextMoment t = some d ∧ d ≤ us
    · obtain ⟨d, next, le⟩ := within
      have fewer := (moment_passClock_fewer (bounded us t start) next).trans_le enough
      rw [passTime_of_moment next le]
      exact ih (Nat.le_of_lt_succ fewer) (step us t d start next le)
    · have never (d : Nat) (next : nextMoment t = some d) : us < d :=
        Nat.lt_of_not_le fun le => within ⟨d, next, le⟩
      rw [passTime_of_quiet never]
      exact last us t start never

/-- The bound that `elapse` gives is enough. -/
theorem momentsOf_le (s : State) : momentsOf s ≤ 4 + (s.gas.channels.toList.map (·.creepWindow.length)).sum := by
  have listed : s.gas.channels.toList = (List.finRange 4).map fun c => s.gas.channels[c] := by
    apply List.ext_getElem <;> simp
  have le (c : ChannelNo) : momentsLeft s.gas.channels[c] ≤ 1 + s.gas.channels[c].creepWindow.length := by
    unfold momentsLeft
    split <;> omega
  have sum := List.sum_le_sum (l := List.finRange 4) fun c _ => le c
  have four : ((List.finRange 4).map fun c => 1 + s.gas.channels[c].creepWindow.length).sum
      = 4 + ((List.finRange 4).map fun c => s.gas.channels[c].creepWindow.length).sum := by
    rw [List.sum_map_add]
    rfl
  rw [listed, List.map_map]
  exact sum.trans_eq four

/-- The same for a lapse of time. -/
theorem elapse_reaches {P : Nat → State → Prop} {Q : State → Prop} (some_time : us ≠ 0)
    (bounded : ∀ us t, P us t → tareInterval t ≤ 4294967295000)
    (step : ∀ us t d, P us t → nextMoment t = some d → d ≤ us → P (us - d) (moment (passClock d t)))
    (last : ∀ us t, P us t → (∀ d, nextMoment t = some d → us < d) → Q (passClock us t)) (start : P us s) :
    Q (elapse us s) := by
  unfold elapse
  rw [if_neg some_time]
  exact passTime_reaches bounded step last (momentsOf_le s) start

end Sys2Proof.Machine
end

section
/-! SUPPORT. Time that passes while no IDLE channel acts (R61, R64): the clocks advance, a charge's tare may fall due, and the
stretches of time between the moments add up. -/

namespace Sys2Proof.Machine

variable {s t : State} {c d : ChannelNo} {us w interval now : Nat} {ch : Channel}

/-! ### A channel's clock and its due tare -/

/-- A channel that does not act in a lapse of time: its clock, and a tare that falls due in CHARGING or SETTLING. -/
def clockedTo (interval us : Nat) (ch : Channel) : Channel :=
  let time := min 4294967295000 (ch.timeSinceTare + us)
  if ch.state = .idle then { ch with timeSinceTare := time }
  else if ch.state = .charging ∨ ch.state = .settling then
    { ch with timeSinceTare := time, tareDue := ch.tareDue || decide (interval ≤ time) }
  else ch

/-- A channel's tare is due where its running clock has reached the interval. -/
def dueReached (interval : Nat) (ch : Channel) : Channel :=
  if tareClockRuns ch.state = true ∧ interval ≤ ch.timeSinceTare then { ch with tareDue := true } else ch

theorem tareClockRuns_iff (state : ChannelState) :
    tareClockRuns state = true ↔ state = .idle ∨ state = .charging ∨ state = .settling := by
  cases state <;> decide

theorem clockedTo_of_idle (idle : ch.state = .idle) :
    clockedTo interval us ch = { ch with timeSinceTare := min 4294967295000 (ch.timeSinceTare + us) } := if_pos idle

theorem clockedTo_of_filling (filling : ch.state = .charging ∨ ch.state = .settling) :
    clockedTo interval us ch = { ch with
      timeSinceTare := min 4294967295000 (ch.timeSinceTare + us)
      tareDue := ch.tareDue || decide (interval ≤ min 4294967295000 (ch.timeSinceTare + us)) } := by
  have busy : ch.state ≠ .idle := by
    rcases filling with state | state <;> rw [state] <;> decide
  unfold clockedTo
  rw [if_neg busy, if_pos filling]

theorem clockedTo_of_held (held : tareClockRuns ch.state = false) : clockedTo interval us ch = ch := by
  have runs := mt (tareClockRuns_iff ch.state).mpr (by rw [held]; exact Bool.false_ne_true)
  obtain ⟨busy, empty⟩ := not_or.mp runs
  unfold clockedTo
  rw [if_neg busy, if_neg empty]

/-- A channel is IDLE, CHARGING or SETTLING, or its clock is held. -/
theorem idle_or_filling_or_held (ch : Channel) :
    ch.state = .idle ∨ (ch.state = .charging ∨ ch.state = .settling) ∨ tareClockRuns ch.state = false := by
  cases runs : tareClockRuns ch.state with
  | false => exact .inr (.inr rfl)
  | true =>
    rcases (tareClockRuns_iff ch.state).mp runs with idle | filling
    · exact .inl idle
    · exact .inr (.inl filling)

theorem clockedTo_state (interval us : Nat) (ch : Channel) : (clockedTo interval us ch).state = ch.state := by
  rcases idle_or_filling_or_held ch with idle | filling | held
  · rw [clockedTo_of_idle idle]
  · rw [clockedTo_of_filling filling]
  · rw [clockedTo_of_held held]

/-- A clock held at its limit takes two stretches as it takes their sum. -/
theorem min_add_min_add (cap x a b : Nat) : min cap (min cap (x + a) + b) = min cap (x + (a + b)) := by omega

/-- Two stretches of time are one. -/
theorem clockedTo_clockedTo (interval a b : Nat) (ch : Channel) :
    clockedTo interval b (clockedTo interval a ch) = clockedTo interval (a + b) ch := by
  rcases idle_or_filling_or_held ch with idle | filling | held
  · rw [clockedTo_of_idle ((clockedTo_state interval a ch).trans idle), clockedTo_of_idle idle, clockedTo_of_idle idle]
    dsimp only
    rw [min_add_min_add]
  · have later : (clockedTo interval a ch).state = .charging ∨ (clockedTo interval a ch).state = .settling := by
      rwa [clockedTo_state]
    rw [clockedTo_of_filling later, clockedTo_of_filling filling, clockedTo_of_filling filling]
    dsimp only
    have reached : (decide (interval ≤ min 4294967295000 (ch.timeSinceTare + a))
          || decide (interval ≤ min 4294967295000 (ch.timeSinceTare + (a + b))))
        = decide (interval ≤ min 4294967295000 (ch.timeSinceTare + (a + b))) := by
      rw [← Bool.decide_or, decide_eq_decide]
      omega
    rw [min_add_min_add, Bool.or_assoc, reached]
  · rw [clockedTo_of_held held, clockedTo_of_held held, clockedTo_of_held held]

/-- A channel whose tare, while it is IDLE, is due already or later than `us` µs. -/
abbrev Waits (interval us : Nat) (ch : Channel) : Prop :=
  ch.state = .idle → ch.tareDue = true ∨ ch.timeSinceTare + us < interval

theorem Waits.clocked (h : Waits interval us ch) (le : w ≤ us) : Waits interval (us - w) (clockedChannel w ch) :=
  fun idle => by
    obtain ⟨state, due, -⟩ := clockedChannel_keeps w ch
    have still := state.symm.trans idle
    rw [clockedChannel_of_running ((tareClockRuns_iff ch.state).mpr (.inl still))]
    refine (h still).imp_right fun early => ?_
    change min 4294967295000 (ch.timeSinceTare + w) + (us - w) < interval
    omega

/-- The clock's advance and then the due tare, where no IDLE channel's tare falls due. -/
theorem dueReached_clockedChannel
    (waits : Waits interval us ch) : dueReached interval (clockedChannel us ch) = clockedTo interval us ch := by
  rcases idle_or_filling_or_held ch with idle | filling | held
  · have running := (tareClockRuns_iff ch.state).mpr (.inl idle)
    rw [clockedTo_of_idle idle, clockedChannel_of_running running]
    unfold dueReached
    dsimp only
    split
    case isTrue reached =>
      have due : ch.tareDue = true := (waits idle).resolve_right fun early => by omega
      rw [due]
    case isFalse => rfl
  · have running := (tareClockRuns_iff ch.state).mpr (.inr filling)
    rw [clockedTo_of_filling filling, clockedChannel_of_running running]
    unfold dueReached
    dsimp only
    split
    case isTrue reached => rw [decide_eq_true reached.2, Bool.or_true]
    case isFalse early => rw [decide_eq_false fun reached => early ⟨running, reached⟩, Bool.or_false]
  · rw [clockedTo_of_held held, clockedChannel_of_held held]
    unfold dueReached
    exact if_neg fun reached => Bool.false_ne_true (held.symm.trans reached.1)

theorem Waits.mono (h : Waits interval us ch) (le : w ≤ us) : Waits interval w ch := fun idle =>
  (h idle).imp_right fun early => by omega

theorem Waits.due (h : Waits interval us ch) : Waits interval us (dueReached interval ch) := by
  unfold dueReached
  split
  · exact fun _ => .inl rfl
  · exact h

theorem Waits.after (h : Waits interval us ch) (le : w ≤ us) : Waits interval (us - w) (clockedTo interval w ch) := by
  rw [← dueReached_clockedChannel (h.mono le)]
  exact (h.clocked le).due

/-! ### A channel that does not act while IDLE -/

/-- Within `us` µs of `now`, no increment of a window comes to lie more than 1000 ms back (log 21). -/
abbrev Holds (now us : Nat) (window : List (Nat × Int)) : Prop :=
  ∀ t mg rest, window = (t, mg) :: rest → now + us ≤ t + 1000000

theorem Holds.mono {window : List (Nat × Int)} (h : Holds now us window) (le : w ≤ us) : Holds now w window :=
  fun t mg rest first => (Nat.add_le_add_left le now).trans (h t mg rest first)

theorem Holds.after {window : List (Nat × Int)} (h : Holds now us window) (le : w ≤ us) :
    Holds (now + w) (us - w) window := fun t mg rest first => by
  have held := h t mg rest first
  omega

/-- Within `us` µs of `now`, a channel that is IDLE neither falls due nor loses an increment. -/
def Quiet (interval now us : Nat) (ch : Channel) : Prop :=
  ch.state = .idle → (ch.tareDue = true ∨ ch.timeSinceTare + us < interval)
    ∧ Holds now us ch.creepWindow

theorem quiet_of_busy (busy : ch.state ≠ .idle) : Quiet interval now us ch := fun idle => absurd idle busy

theorem Quiet.mono (h : Quiet interval now us ch) (le : w ≤ us) : Quiet interval now w ch := fun idle => by
  obtain ⟨waits, holds⟩ := h idle
  exact ⟨waits.imp_right fun early => by omega, holds.mono le⟩

theorem Quiet.due (h : Quiet interval now us ch) : Quiet interval now us (dueReached interval ch) := by
  unfold dueReached
  split
  · exact fun idle => ⟨.inl rfl, (h idle).2⟩
  · exact h

theorem Quiet.tareEntered : Quiet interval now us (tareEntered ch) := quiet_of_busy (by decide : ChannelState.tare ≠ .idle)

/-- A stretch of time within the lapse leaves a channel quiet for the rest of it. -/
theorem Quiet.clocked (h : Quiet interval now us ch) (le : w ≤ us) :
    Quiet interval (now + w) (us - w) (clockedChannel w ch) := fun idle => by
  obtain ⟨state, -, window⟩ := clockedChannel_keeps w ch
  obtain ⟨waits, holds⟩ := h (state.symm.trans idle)
  refine ⟨Waits.clocked (fun _ => waits) le idle, ?_⟩
  rw [window]
  exact holds.after le

theorem Quiet.after (h : Quiet interval now us ch) (le : w ≤ us) :
    Quiet interval (now + w) (us - w) (clockedTo interval w ch) := by
  rw [← dueReached_clockedChannel fun idle => (h.mono le idle).1]
  exact (h.clocked le).due

/-! ### The tares that fall due -/

/-- A channel whose tare does not fall due while it is IDLE. -/
abbrev NotIdleDue (c : ChannelNo) (s : State) : Prop := s.gas.channels[c].state = .idle → ¬ FallsDue c s

theorem fallsDue_iff : FallsDue c s ↔ tareClockRuns s.gas.channels[c].state = true ∧ s.gas.channels[c].tareDue = false
    ∧ tareInterval s ≤ s.gas.channels[c].timeSinceTare := by
  rw [← Nat.sub_eq_zero_iff_le]
  exact tareWait_eq_some_iff

theorem notIdleDue_of_waits (h : Waits (tareInterval s) us s.gas.channels[c]) : NotIdleDue c s := fun idle falls => by
  obtain ⟨-, early, reached⟩ := fallsDue_iff.mp falls
  rcases h idle with due | later
  · exact Bool.false_ne_true (early.symm.trans due)
  · omega

theorem setChannel_getElem_self (c : ChannelNo) (s : State) : setChannel c s.gas.channels[c] s = s := by
  have same : s.gas.channels.set c s.gas.channels[c] = s.gas.channels := Vector.set_getElem_self c.isLt
  unfold setChannel
  rw [same]

theorem fallDue_of_notIdleDue (h : NotIdleDue c s) :
    fallDue c s = setChannel c (dueReached (tareInterval s) s.gas.channels[c]) s := by
  by_cases falls : FallsDue c s
  · obtain ⟨running, -, reached⟩ := fallsDue_iff.mp falls
    rw [fallDue_of_due falls, if_neg fun idle => h idle falls]
    unfold dueReached
    rw [if_pos ⟨running, reached⟩]
  · have same : dueReached (tareInterval s) s.gas.channels[c] = s.gas.channels[c] := by
      unfold dueReached
      split
      case isTrue reached =>
        have due : s.gas.channels[c].tareDue = true := by
          by_contra early
          exact falls (fallsDue_iff.mpr ⟨reached.1, Bool.eq_false_iff.mpr early, reached.2⟩)
        rw [← due]
      case isFalse => rfl
    rw [fallDue_of_not falls, same, setChannel_getElem_self]

/-- The same state with other channels. -/
def withChannels (v : Vector Channel 4) (s : State) : State := { s with gas := { s.gas with channels := v } }

/-- The turns of channels none of which falls due while IDLE: each sets its own tare due. -/
theorem fallDues_eq (l : List ChannelNo) (once : l.Nodup) (s : State) (quiet : ∀ c ∈ l, NotIdleDue c s) :
    ∃ v, l.foldl (fun s c => fallDue c s) s = withChannels v s
      ∧ ∀ d : ChannelNo, v[d] = if d ∈ l then dueReached (tareInterval s) s.gas.channels[d] else s.gas.channels[d] := by
  induction l generalizing s with
  | nil => exact ⟨s.gas.channels, rfl, fun d => (if_neg List.not_mem_nil).symm⟩
  | cons c l ih =>
    obtain ⟨out, once⟩ := List.nodup_cons.mp once
    obtain ⟨first, later⟩ := List.forall_mem_cons.mp quiet
    have others (d : ChannelNo) (mem : d ∈ l) : c ≠ d := fun same => out (same ▸ mem)
    obtain ⟨v, turned, each⟩ := ih once (fallDue c s) fun d mem => by
      rw [fallDue_of_notIdleDue first]
      unfold NotIdleDue FallsDue
      rw [getElem_setChannel_ne (others d mem), tareWait_congr (s := s) (t := setChannel c _ s) rfl]
      exact later d mem
    rw [fallDue_of_notIdleDue first] at turned each
    refine ⟨v, ?_, fun d => (each d).trans ?_⟩
    · rw [List.foldl_cons, fallDue_of_notIdleDue first, turned]
      rfl
    · change (if d ∈ l then dueReached (tareInterval s) _ else _) = _
      by_cases same : c = d
      · subst same
        rw [if_neg out, getElem_setChannel_self, if_pos List.mem_cons_self]
      · rw [getElem_setChannel_ne same]
        exact if_congr (by rw [List.mem_cons, or_iff_right (Ne.symm same)]) rfl rfl

/-! ### A moment in which no IDLE channel acts -/

/-- The state after a lapse of time in which no IDLE channel acts. -/
def clockedState (us : Nat) (s : State) : State :=
  { s with timebase := s.timebase + us, gas := { s.gas with channels := s.gas.channels.map (clockedTo (tareInterval s) us) } }

theorem getElem_clockedState (us : Nat) (s : State) (c : ChannelNo) :
    (clockedState us s).gas.channels[c] = clockedTo (tareInterval s) us s.gas.channels[c] := Vector.getElem_map _ c.isLt

theorem clockedState_clockedState (a b : Nat) (s : State) :
    clockedState b (clockedState a s) = clockedState (a + b) s := by
  unfold clockedState
  dsimp only
  rw [Vector.map_map, Nat.add_assoc]
  congr 3
  exact funext fun ch => clockedTo_clockedTo (tareInterval s) a b ch

theorem tareInterval_finish (s : State) : tareInterval (finish s) = tareInterval s := by
  unfold tareInterval
  rw [finish_config]

theorem clockedState_finish (us : Nat) (s : State) : clockedState us (finish s) = finish (clockedState us s) := by
  have clocked := finish_gas_timebase { s.gas with channels := s.gas.channels.map (clockedTo (tareInterval s) us) }
    (s.timebase + us) s
  unfold clockedState
  rw [tareInterval_finish, finish_gas, finish_timebase]
  exact clocked.symm

/-- The tares of the moment after a stretch of time. -/
theorem fallDues_passClock
    (waits : ∀ c : ChannelNo, Waits (tareInterval s) us s.gas.channels[c]) :
    forChannels fallDue (passClock us s) = clockedState us s := by
  obtain ⟨v, turned, each⟩ := fallDues_eq (List.finRange 4) (List.nodup_finRange 4) (passClock us s) fun c _ =>
    notIdleDue_of_waits (us := us - us) (by
      rw [getElem_passClock]
      exact (waits c).clocked (Nat.le_refl us))
  have clocked : v = s.gas.channels.map (clockedTo (tareInterval s) us) := by
    refine Vector.ext fun i inside => ?_
    have mine := each ⟨i, inside⟩
    rw [if_pos (List.mem_finRange _), getElem_passClock] at mine
    refine (mine.trans (dueReached_clockedChannel (waits ⟨i, inside⟩))).trans ?_
    exact (Vector.getElem_map _ inside).symm
  unfold forChannels
  rw [turned, clocked]
  rfl

theorem not_ages_of_quiet (h : Quiet (tareInterval s) s.timebase us s.gas.channels[c]) : ¬ Ages c s := fun ages => by
  obtain ⟨idle, at', mg, rest, window, gone⟩ := creepWait_eq_some ages
  have held := (h idle).2 at' mg rest window
  omega

/-- Within `us` µs no IDLE channel acts, and the clock can reach the interval. -/
structure Calm (us : Nat) (s : State) : Prop where
  bounded : tareInterval s ≤ 4294967295000
  quiet   : ∀ c : ChannelNo, Quiet (tareInterval s) s.timebase us s.gas.channels[c]

theorem Calm.waits (h : Calm us s) (c : ChannelNo) : Waits (tareInterval s) us s.gas.channels[c] := fun idle =>
  (h.quiet c idle).1

theorem Calm.mono (h : Calm us s) (le : w ≤ us) : Calm w s := ⟨h.bounded, fun c => (h.quiet c).mono le⟩

theorem Calm.after (h : Calm us s) (le : w ≤ us) : Calm (us - w) (clockedState w s) :=
  ⟨h.bounded, fun c => by
    rw [getElem_clockedState]
    exact (h.quiet c).after le⟩

theorem Calm.ended (h : Calm us s) : Calm us (finish s) :=
  ⟨(tareInterval_finish s).trans_le h.bounded, fun c => by
    rw [tareInterval_finish, finish_timebase, finish_gas]
    exact h.quiet c⟩

/-- A moment in which no IDLE channel acts. -/
theorem moment_passClock_of_calm (h : Calm us s) (le : w ≤ us) :
    moment (passClock w s) = finish (clockedState w s) := by
  rw [moment_eq, fallDues_passClock (h.mono le).waits,
    forChannels_ageCreep_of_none fun c => not_ages_of_quiet ((h.after le).quiet c)]

/-- With no moment in it, a stretch of time sets no tare due. -/
theorem passClock_of_calm (h : Calm us s) (never : ∀ d, nextMoment s = some d → us < d) :
    passClock us s = clockedState us s := by
  rw [← fallDues_passClock h.waits, forChannels_fallDue_of_none fun c falls => ?_]
  obtain ⟨running, early, reached⟩ := fallsDue_iff.mp falls
  obtain ⟨state, due, -⟩ := clockedChannel_keeps us s.gas.channels[c]
  rw [getElem_passClock] at running early reached
  rw [state] at running
  rw [due] at early
  rw [clockedChannel_of_running running] at reached
  obtain ⟨d, next, first⟩ := nextMoment_le (.inl (tareWait_of_running (s := s) running early))
  have later := never d next
  change tareInterval s ≤ min 4294967295000 (s.gas.channels[c].timeSinceTare + us) at reached
  omega

/-- Time that passes in calm, from a state in which an event has ended. -/
theorem elapse_of_calm (some_time : us ≠ 0) (h : Calm us s) (ended : finish s = s) :
    elapse us s = clockedState us s := by
  refine elapse_reaches
    (P := fun a t => Calm a t ∧ finish t = t ∧ clockedState a t = clockedState us s)
    (Q := fun t => t = clockedState us s)
    some_time (fun a t start => start.1.bounded) (fun a t d start next within => ?_) (fun a t start never => ?_)
    ⟨h, ended, rfl⟩
  · obtain ⟨calm, done, clocked⟩ := start
    rw [moment_passClock_of_calm calm within]
    refine ⟨(calm.after within).ended, finish_finish _, ?_⟩
    rw [← clockedState_finish, done, clockedState_clockedState, Nat.add_sub_cancel' within, clocked]
  · obtain ⟨calm, -, clocked⟩ := start
    exact (passClock_of_calm calm never).trans clocked

end Sys2Proof.Machine
end

section
/-! SUPPORT. Time that passes while one IDLE channel acts (R61, R64): the moments before it acts, its own moment, and the calm
after it. -/

namespace Sys2Proof.Machine

variable {s t : State} {c d : ChannelNo} {us w : Nat} {ch : Channel} {l : List ChannelNo}

/-! ### The channels beside the one that acts -/

/-- What happens at channel `c` leaves the clock, and every other channel that is quiet stays so. -/
structure QuietBeside (c : ChannelNo) (s t : State) : Prop where
  config   : t.config = s.config
  timebase : t.timebase = s.timebase
  others   : ∀ (us : Nat) (d : ChannelNo), d ≠ c → Quiet (tareInterval s) s.timebase us s.gas.channels[d] →
    Quiet (tareInterval s) s.timebase us t.gas.channels[d]

theorem QuietBeside.interval (h : QuietBeside c s t) : tareInterval t = tareInterval s := by
  unfold tareInterval
  rw [h.config]

theorem QuietBeside.trans {u : State} (h : QuietBeside c s t) (k : QuietBeside c t u) : QuietBeside c s u :=
  ⟨k.config.trans h.config, k.timebase.trans h.timebase, fun us d other quiet => by
    have later := k.others us d other
    rw [h.interval, h.timebase] at later
    exact later (h.others us d other quiet)⟩

theorem finish_quietBeside (c : ChannelNo) (s : State) : QuietBeside c s (finish s) :=
  ⟨finish_config s, finish_timebase s, fun _ d _ quiet => by rwa [finish_gas]⟩

/-- A channel beside, as it was or in TARE where the queue moved up to it. -/
theorem quiet_of_turned {interval now : Nat} {v : Channel} (turned : v = ch ∨ v = tareEntered ch)
    (quiet : Quiet interval now us ch) : Quiet interval now us v := by
  rcases turned with same | entered
  · rwa [same]
  · rw [entered]
    exact Quiet.tareEntered

/-- The other channels are quiet for `us` µs. -/
abbrev OthersQuiet (c : ChannelNo) (us : Nat) (s : State) : Prop :=
  ∀ d : ChannelNo, d ≠ c → Quiet (tareInterval s) s.timebase us s.gas.channels[d]

theorem QuietBeside.othersQuiet (h : QuietBeside c s t) (others : OthersQuiet c us s) : OthersQuiet c us t :=
  fun d other => by
    rw [h.interval, h.timebase]
    exact h.others us d other (others d other)

/-- The turns of the other channels leave channel `c` and the tare queue. -/
theorem fallDues_beside (once : l.Nodup) (out : c ∉ l) (others : OthersQuiet c us s) :
    ∃ v, l.foldl (fun s c => fallDue c s) s = withChannels v s ∧ v[c] = s.gas.channels[c]
      ∧ QuietBeside c s (withChannels v s) := by
  obtain ⟨v, turned, each⟩ := fallDues_eq l once s fun d mem =>
    notIdleDue_of_waits (us := us) fun idle => (others d (fun same => out (same ▸ mem)) idle).1
  refine ⟨v, turned, (each c).trans (if_neg out), rfl, rfl, fun a d _ quiet => ?_⟩
  change Quiet (tareInterval s) s.timebase a v[d]
  rw [each d]
  split
  · exact quiet.due
  · exact quiet

/-- Every channel but one is in the turns before it or in those after it. -/
theorem finRange_split (c : ChannelNo) :
    ∃ before after : List ChannelNo, List.finRange 4 = before ++ c :: after ∧ before.Nodup ∧ after.Nodup
      ∧ c ∉ before ∧ c ∉ after := by
  obtain ⟨before, after, split⟩ := List.append_of_mem (List.mem_finRange c)
  have once := List.nodup_finRange 4
  rw [split] at once
  obtain ⟨first, second, apart⟩ := List.nodup_append.mp once
  obtain ⟨out, second⟩ := List.nodup_cons.mp second
  exact ⟨before, after, split, first, second, fun mem => apart c mem c List.mem_cons_self rfl, out⟩

/-! ### The calm after the moment -/

/-- In calm, channel `c` is on its way to `v`, and the tare queue is `q`. -/
def Settled (c : ChannelNo) (v : Channel) (q : List ChannelNo) (us : Nat) (s : State) : Prop :=
  Calm us s ∧ (clockedState us s).gas.channels[c] = v ∧ s.gas.tareQueue = q

theorem Settled.moment {v : Channel} {q : List ChannelNo} (h : Settled c v q us s) (within : w ≤ us) :
    Settled c v q (us - w) (moment (passClock w s)) := by
  obtain ⟨calm, there, queue⟩ := h
  rw [moment_passClock_of_calm calm within]
  refine ⟨(calm.after within).ended, ?_, ?_⟩
  · rw [clockedState_finish, finish_gas, clockedState_clockedState, Nat.add_sub_cancel' within, there]
  · rw [finish_gas]
    exact queue

/-- Time passes in a phase `A` until channel `c` acts, and then in calm. -/
theorem elapse_settles {A : Nat → State → Prop} {R : Channel → List ChannelNo → Prop} (some_time : us ≠ 0)
    (bounded : ∀ us t, A us t → tareInterval t ≤ 4294967295000)
    (acts : ∀ us t, A us t → ∃ d, nextMoment t = some d ∧ d ≤ us)
    (step : ∀ us t d, A us t → nextMoment t = some d → d ≤ us →
      A (us - d) (moment (passClock d t)) ∨ ∃ v q, R v q ∧ Settled c v q (us - d) (moment (passClock d t)))
    (start : A us s) : R (elapse us s).gas.channels[c] (elapse us s).gas.tareQueue := by
  refine elapse_reaches (P := fun a t => A a t ∨ ∃ v q, R v q ∧ Settled c v q a t)
    (Q := fun t => R t.gas.channels[c] t.gas.tareQueue) some_time ?_ ?_ ?_ (.inl start)
  · rintro a t (phase | ⟨v, q, -, calm, -⟩)
    · exact bounded a t phase
    · exact calm.bounded
  · rintro a t d (phase | ⟨v, q, result, settled⟩) next within
    · exact step a t d phase next within
    · exact .inr ⟨v, q, result, settled.moment within⟩
  · rintro a t (phase | ⟨v, q, result, calm, there, queue⟩) never
    · obtain ⟨d, next, within⟩ := acts a t phase
      exact absurd within (Nat.not_le_of_lt (never d next))
    · rw [passClock_of_calm calm never, there]
      exact queue ▸ result

/-! ### The moment in which channel `c` falls due (R61) -/

theorem fallDue_idle (falls : FallsDue c s) (idle : s.gas.channels[c].state = .idle) :
    fallDue c s = tareStart (queueTare c (setChannel c { s.gas.channels[c] with tareDue := true } s)) := by
  rw [fallDue_of_due falls, if_pos idle]

theorem fallDue_quietBeside (falls : FallsDue c s) (idle : s.gas.channels[c].state = .idle) :
    QuietBeside c s (fallDue c s) := by
  rw [fallDue_idle falls idle]
  refine ⟨?_, ?_, fun a d other quiet => quiet_of_turned (getElem_tareStart d _) ?_⟩
  · rw [tareStart_eq]
    rfl
  · rw [tareStart_eq]
    rfl
  · rwa [getElem_queueTare_ne (Ne.symm other), getElem_setChannel_ne (Ne.symm other)]

/-- A channel that has fallen due: in TARE_WAIT, or in TARE where it was alone. -/
def Joined (time : Nat) (ch : Channel) : Prop :=
  (ch.state = .tareWait ∨ ch.state = .tare) ∧ ch.tareDue = true ∧ ch.timeSinceTare = time

theorem Joined.busy {time : Nat} (h : Joined time ch) : ch.state ≠ .idle := by
  rcases h.1 with state | state <;> rw [state] <;> decide

theorem Joined.held {time : Nat} (h : Joined time ch) : tareClockRuns ch.state = false := by
  rcases h.1 with state | state <;> rw [state] <;> rfl

/-- The tare queue after channel `c` has joined it, which it holds at most once (R62). -/
abbrev joinedQueue (c : ChannelNo) (q : List ChannelNo) : List ChannelNo := if c ∈ q then q else q ++ [c]

theorem fallDue_joins (falls : FallsDue c s) (idle : s.gas.channels[c].state = .idle) :
    Joined s.gas.channels[c].timeSinceTare (fallDue c s).gas.channels[c]
      ∧ (fallDue c s).gas.tareQueue = joinedQueue c s.gas.tareQueue := by
  obtain ⟨state, due, view⟩ := tareStart_queueTare c (setChannel c { s.gas.channels[c] with tareDue := true } s)
  rw [getElem_setChannel_self] at due view
  rw [fallDue_idle falls idle]
  refine ⟨⟨state, due, ?_⟩, tareStart_queueTare_tareQueue c _⟩
  exact congrArg (·.2.2.2.2) view

/-- The turns of a moment in which channel `c` falls due. -/
theorem fallDues_joins (falls : FallsDue c s) (idle : s.gas.channels[c].state = .idle) (others : OthersQuiet c us s) :
    QuietBeside c s (forChannels fallDue s)
      ∧ Joined s.gas.channels[c].timeSinceTare (forChannels fallDue s).gas.channels[c]
      ∧ (forChannels fallDue s).gas.tareQueue = joinedQueue c s.gas.tareQueue := by
  obtain ⟨before, after, split, once, once', out, out'⟩ := finRange_split c
  obtain ⟨v, turned, mine, beside⟩ := fallDues_beside once out others
  have falls' : FallsDue c (withChannels v s) := by
    change tareWait (withChannels v s) v[c] = some 0
    rw [mine]
    exact falls
  have beside' := fallDue_quietBeside falls' ((congrArg Channel.state mine).trans idle)
  obtain ⟨joined, queue⟩ := fallDue_joins falls' ((congrArg Channel.state mine).trans idle)
  obtain ⟨w, turned', mine', beside''⟩ := fallDues_beside once' out' ((beside.trans beside').othersQuiet others)
  have turns : forChannels fallDue s = withChannels w (fallDue c (withChannels v s)) := by
    unfold forChannels
    rw [split, List.foldl_append, turned, List.foldl_cons, turned']
  change Joined v[c].timeSinceTare _ at joined
  rw [mine, ← mine'] at joined
  rw [turns]
  exact ⟨(beside.trans beside').trans beside'', joined, queue⟩

theorem forChannels_ageCreep_of_busy (busy : s.gas.channels[c].state ≠ .idle) (others : OthersQuiet c us s) :
    forChannels ageCreep s = s := by
  refine forChannels_ageCreep_of_none fun d ages => ?_
  by_cases same : d = c
  · subst same
    exact busy (creepWait_eq_some ages).1
  · exact not_ages_of_quiet (others d same) ages

/-- In calm, where the other channels are and channel `c` is busy. -/
theorem calm_of_busy (bounded : tareInterval s ≤ 4294967295000) (busy : s.gas.channels[c].state ≠ .idle)
    (others : OthersQuiet c us s) : Calm us s := by
  refine ⟨bounded, fun d => ?_⟩
  by_cases same : d = c
  · subst same
    exact quiet_of_busy busy
  · exact others d same

/-- Before channel `c` falls due: it is to join the tare queue `q` within `us` µs, at the time since tare `time`. -/
structure TareAhead (c : ChannelNo) (time : Nat) (q : List ChannelNo) (us : Nat) (s : State) : Prop where
  bounded : tareInterval s ≤ 4294967295000
  others  : OthersQuiet c us s
  idle    : s.gas.channels[c].state = .idle
  early   : s.gas.channels[c].tareDue = false
  holds   : Holds s.timebase us s.gas.channels[c].creepWindow
  reaches : tareInterval s ≤ s.gas.channels[c].timeSinceTare + us
  time    : min 4294967295000 (max s.gas.channels[c].timeSinceTare (tareInterval s)) = time
  queue   : s.gas.tareQueue = q

theorem TareAhead.running {time : Nat} {q : List ChannelNo} (h : TareAhead c time q us s) :
    tareClockRuns s.gas.channels[c].state = true := (tareClockRuns_iff _).mpr (.inl h.idle)

/-- Channel `c` falls due within the lapse. -/
theorem TareAhead.acts {time : Nat} {q : List ChannelNo} (h : TareAhead c time q us s) :
    ∃ d, nextMoment s = some d ∧ d ≤ us ∧ d ≤ tareInterval s - s.gas.channels[c].timeSinceTare := by
  obtain ⟨d, next, first⟩ := nextMoment_le (.inl (tareWait_of_running (s := s) h.running h.early))
  have reaches := h.reaches
  exact ⟨d, next, by omega, first⟩

/-- The end of a moment leaves the wait. -/
theorem TareAhead.ended {time : Nat} {q : List ChannelNo} (h : TareAhead c time q us s) : TareAhead c time q us (finish s) := by
  obtain ⟨bounded, others, idle, early, holds, reaches, at', queue⟩ := h
  refine ⟨?_, (finish_quietBeside c s).othersQuiet others, ?_, ?_, ?_, ?_, ?_, ?_⟩ <;>
    simp only [tareInterval, finish_config, finish_gas, finish_timebase] <;> assumption

/-- Before channel `c` falls due, no IDLE channel acts. -/
theorem TareAhead.calm {time : Nat} {q : List ChannelNo} (h : TareAhead c time q us s) (le : w ≤ us)
    (early : s.gas.channels[c].timeSinceTare + w < tareInterval s) : Calm w s := by
  refine ⟨h.bounded, fun d => ?_⟩
  by_cases same : d = c
  · subst same
    exact fun _ => ⟨.inr early, h.holds.mono le⟩
  · exact (h.others d same).mono le

theorem TareAhead.after {time : Nat} {q : List ChannelNo} (h : TareAhead c time q us s) (le : w ≤ us)
    (sooner : s.gas.channels[c].timeSinceTare + w < tareInterval s) :
    TareAhead c time q (us - w) (clockedState w s) := by
  obtain ⟨bounded, others, idle, early, holds, reaches, at', queue⟩ := h
  have mine : (clockedState w s).gas.channels[c]
      = { s.gas.channels[c] with timeSinceTare := s.gas.channels[c].timeSinceTare + w } := by
    rw [getElem_clockedState, clockedTo_of_idle idle, Nat.min_eq_right (sooner.le.trans bounded)]
  refine ⟨bounded, fun d other => ?_, ?_, ?_, ?_, ?_, ?_, queue⟩
  · rw [getElem_clockedState]
    exact (others d other).after le
  · rw [mine]
    exact idle
  · rw [mine]
    exact early
  · rw [mine]
    exact holds.after le
  · rw [mine]
    change tareInterval s ≤ s.gas.channels[c].timeSinceTare + w + (us - w)
    omega
  · rw [mine, ← at']
    change min 4294967295000 (max (s.gas.channels[c].timeSinceTare + w) (tareInterval s)) = _
    omega

/-- The moment in which channel `c` falls due, and the calm after it. -/
theorem TareAhead.falls {time : Nat} {q : List ChannelNo} (h : TareAhead c time q us s) (le : w ≤ us)
    (first : w ≤ tareInterval s - s.gas.channels[c].timeSinceTare)
    (now : tareInterval s ≤ s.gas.channels[c].timeSinceTare + w) :
    ∃ v, Joined time v ∧ Settled c v (joinedQueue c q) (us - w) (moment (passClock w s)) := by
  have mine : (passClock w s).gas.channels[c] = { s.gas.channels[c] with timeSinceTare := time } := by
    rw [getElem_passClock, clockedChannel_of_running h.running, ← h.time]
    congr 1
    omega
  have idle : (passClock w s).gas.channels[c].state = .idle := by
    rw [mine]
    exact h.idle
  have falls : FallsDue c (passClock w s) := by
    refine fallsDue_iff.mpr ⟨?_, ?_, ?_⟩
    · rw [idle]
      rfl
    · rw [mine]
      exact h.early
    · rw [mine]
      have bounded := h.bounded
      have at' := h.time
      change tareInterval s ≤ time
      omega
  have others : OthersQuiet c (us - w) (passClock w s) := fun d other => by
    rw [getElem_passClock]
    exact (h.others d other).clocked le
  obtain ⟨beside, joined, queue⟩ := fallDues_joins falls idle others
  have after := beside.othersQuiet others
  have calm := calm_of_busy (beside.interval.trans_le h.bounded) joined.busy after
  rw [mine] at joined
  rw [moment_eq, forChannels_ageCreep_of_busy joined.busy after]
  refine ⟨_, joined, calm.ended, ?_, ?_⟩
  · rw [clockedState_finish, finish_gas, getElem_clockedState, clockedTo_of_held joined.held]
  · rw [finish_gas, queue]
    exact congrArg (joinedQueue c) h.queue

/-- R61: a channel whose time since tare reaches the interval while it is IDLE joins the tare queue at that moment. -/
theorem elapse_tareAhead {time : Nat} {q : List ChannelNo} (some_time : us ≠ 0) (start : TareAhead c time q us s) :
    Joined time (elapse us s).gas.channels[c] ∧ (elapse us s).gas.tareQueue = joinedQueue c q := by
  refine elapse_settles (A := TareAhead c time q) (R := fun v r => Joined time v ∧ r = joinedQueue c q) some_time
    (fun _ _ phase => phase.bounded) (fun _ _ phase => ?_) (fun a t d phase next within => ?_) start
  · obtain ⟨d, next, within, -⟩ := phase.acts
    exact ⟨d, next, within⟩
  · obtain ⟨e, next', -, first⟩ := phase.acts
    obtain rfl := Option.some.inj (next.symm.trans next')
    by_cases sooner : t.gas.channels[c].timeSinceTare + d < tareInterval t
    · rw [moment_passClock_of_calm (phase.calm within sooner) (Nat.le_refl d)]
      exact .inl (phase.after within sooner).ended
    · obtain ⟨v, joined, settled⟩ := phase.falls within first (Nat.le_of_not_lt sooner)
      exact .inr ⟨v, joinedQueue c q, ⟨joined, rfl⟩, settled⟩

end Sys2Proof.Machine
end

section
/-! PROOF. R61, R64: the passing of time, its IDLE channel that acts, and the step with no command waiting. -/

namespace Sys2Proof.Machine

variable {s t : State} {c d : ChannelNo} {us w leaves : Nat} {ch last : Channel} {old kept : List (Nat × Int)}
  {q : List ChannelNo}

/-! ### The moment in which the window of channel `c` ages (R64) -/

/-- The increments of one moment leave together. -/
theorem agedWindow_append {now : Nat} (gone : leaves + 1000000 < now) (same : ∀ i ∈ old, i.1 = leaves)
    (held : Holds now us kept) : agedWindow now (old ++ kept) = kept := by
  induction old with
  | nil =>
    cases kept with
    | nil => rfl
    | cons i kept =>
      have first := held i.1 i.2 kept rfl
      exact List.dropWhile_cons_of_neg (p := fun i : Nat × Int => decide (i.1 + 1000000 < now)) (by
        rw [decide_eq_true_eq]
        omega)
  | cons i old ih =>
    obtain ⟨first, later⟩ := List.forall_mem_cons.mp same
    exact (agedWindow_cons (first ▸ gone) i.2 (old ++ kept)).trans (ih later)

/-- The turns of a moment in which at most channel `c` ages. -/
theorem forChannels_ageCreep_of_others (others : OthersQuiet c us s) (after : OthersQuiet c us (ageCreep c s)) :
    forChannels ageCreep s = ageCreep c s := by
  obtain ⟨before, after', split, -, -, out, out'⟩ := finRange_split c
  have rests : ∀ d t, ¬ Ages d t → ageCreep d t = t := fun _ _ => ageCreep_of_not
  have earlier := turns_of_none rests fun d mem => not_ages_of_quiet (others d fun same => out (same ▸ mem))
  have later := turns_of_none rests fun d mem => not_ages_of_quiet (after d fun same => out' (same ▸ mem))
  unfold forChannels
  rw [split, List.foldl_append, earlier, List.foldl_cons, later]

theorem enterFault_quietBeside (c : ChannelNo) (cause : ChannelFault) (s : State) : QuietBeside c s (enterFault c cause s) := by
  have moves := enterFault_moves (c := c) (cause := cause) (Moves.refl s)
  refine ⟨moves.config, moves.timebase, fun a d other quiet => quiet_of_turned (getElem_outOfService c _ d s) ?_⟩
  rwa [getElem_setChannel_ne (Ne.symm other)]

theorem enterFault_busy (c : ChannelNo) (cause : ChannelFault) (s : State) :
    (enterFault c cause s).gas.channels[c].state = .fault ∨ (enterFault c cause s).gas.channels[c].state = .tare := by
  rcases getElem_outOfService c (faultedChannel cause s.gas.channels[c]) c s with same | entered
  · left
    rw [enterFault_eq_outOfService, same, getElem_setChannel_self]
    rfl
  · right
    rw [enterFault_eq_outOfService, entered]
    rfl

/-- What is left of a window within 20 mg stays, and a channel with more enters FAULT (R64). -/
def Judged (kept : List (Nat × Int)) (last : Channel) (q : List ChannelNo) (ch : Channel) : Prop :=
  (creepSum kept ≤ 20 → ch = last) ∧ (20 < creepSum kept → q.Nodup → ch.state = .fault ∧ ch.faultCause = some .creep)

/-- Channel `c` with another creep window. -/
def withWindow (c : ChannelNo) (window : List (Nat × Int)) (s : State) : State :=
  setChannel c { s.gas.channels[c] with creepWindow := window } s

theorem getElem_withWindow (c : ChannelNo) (window : List (Nat × Int)) (s : State) :
    (withWindow c window s).gas.channels[c] = { s.gas.channels[c] with creepWindow := window } :=
  getElem_setChannel_self c _ s

theorem withWindow_quietBeside (c : ChannelNo) (window : List (Nat × Int)) (s : State) :
    QuietBeside c s (withWindow c window s) :=
  ⟨rfl, rfl, fun a d other quiet => by rwa [withWindow, getElem_setChannel_ne (Ne.symm other)]⟩

/-- Before the increments of the moment `leaves` leave the window of channel `c`, within `us` µs. -/
structure CreepAhead (c : ChannelNo) (leaves : Nat) (old kept : List (Nat × Int)) (last : Channel) (q : List ChannelNo)
    (us : Nat) (s : State) : Prop where
  bounded : tareInterval s ≤ 4294967295000
  others  : OthersQuiet c us s
  idle    : s.gas.channels[c].state = .idle
  waits   : Waits (tareInterval s) us s.gas.channels[c]
  window  : s.gas.channels[c].creepWindow = old ++ kept
  reaches : leaves + 1000000 < s.timebase + us
  holds   : Holds s.timebase us kept
  last    : { clockedTo (tareInterval s) us s.gas.channels[c] with creepWindow := kept } = last
  queue   : s.gas.tareQueue = q

namespace CreepAhead

variable (h : CreepAhead c leaves old kept last q us s)
include h

theorem waitsAll (e : ChannelNo) : Waits (tareInterval s) us s.gas.channels[e] := by
  by_cases same : e = c
  · subst same
    exact h.waits
  · exact fun idle => (h.others e same idle).1

theorem ended : CreepAhead c leaves old kept last q us (finish s) := by
  obtain ⟨bounded, others, idle, waits, window, reaches, holds, last, queue⟩ := h
  refine ⟨?_, (finish_quietBeside c s).othersQuiet others, ?_, ?_, ?_, ?_, ?_, ?_, ?_⟩ <;>
    simp only [Waits, tareInterval, finish_config, finish_gas, finish_timebase] <;> assumption

theorem after (le : w ≤ us) : CreepAhead c leaves old kept last q (us - w) (clockedState w s) := by
  obtain ⟨bounded, others, idle, waits, window, reaches, holds, last, queue⟩ := h
  have mine := getElem_clockedState w s c
  refine ⟨bounded, fun d other => ?_, ?_, ?_, ?_, ?_, holds.after le, ?_, queue⟩
  · rw [getElem_clockedState]
    exact (others d other).after le
  · rw [mine, clockedTo_state]
    exact idle
  · rw [mine]
    exact waits.after le
  · rw [mine, clockedTo_of_idle idle]
    exact window
  · change leaves + 1000000 < s.timebase + w + (us - w)
    omega
  · rw [mine, ← last]
    change { clockedTo (tareInterval s) (us - w) _ with creepWindow := kept } = _
    rw [clockedTo_clockedTo, Nat.add_sub_cancel' le]

/-- Channel `c` ages within the lapse. -/
theorem acts (some_old : old ≠ []) (same : ∀ i ∈ old, i.1 = leaves) :
    ∃ d, nextMoment s = some d ∧ d ≤ us := by
  obtain ⟨i, rest, rfl⟩ := List.exists_cons_of_ne_nil some_old
  have first := same i List.mem_cons_self
  obtain ⟨d, next, le⟩ := nextMoment_le (.inr (creepWait_of_idle (s := s) h.idle h.window))
  have reaches := h.reaches
  exact ⟨d, next, by omega⟩

/-- Before the window of channel `c` ages, no IDLE channel acts. -/
theorem calm (some_old : old ≠ []) (same : ∀ i ∈ old, i.1 = leaves) (le : w ≤ us)
    (sooner : s.timebase + w ≤ leaves + 1000000) : Calm w s := by
  refine ⟨h.bounded, fun d => ?_⟩
  by_cases mine : d = c
  · subst mine
    refine fun idle => ⟨h.waits.mono le idle, fun at' mg rest window => ?_⟩
    obtain ⟨i, rest', rfl⟩ := List.exists_cons_of_ne_nil some_old
    obtain rfl := (List.cons.inj (window.symm.trans h.window)).1
    rwa [← same (at', mg) List.mem_cons_self] at sooner
  · exact (h.others d mine).mono le

/-- The window as the increments of the moment leave it. -/
theorem ages (some_old : old ≠ []) (same : ∀ i ∈ old, i.1 = leaves) (now : leaves + 1000000 < s.timebase) :
    ageCreep c s = judgeCreep c (withWindow c kept s) := by
  have aged : Ages c s := by
    obtain ⟨i, rest, rfl⟩ := List.exists_cons_of_ne_nil some_old
    have first := same i List.mem_cons_self
    unfold Ages
    rw [creepWait_of_idle h.idle h.window]
    exact congrArg some (by omega)
  rw [ageCreep_of_aged aged, h.window, agedWindow_append now same (h.holds.mono (Nat.zero_le us))]
  rfl

/-- A window within 20 mg, and the calm after its judgement. -/
theorem judged_light (light : creepSum kept ≤ 20) :
    Settled c last (judgeCreep c (withWindow c kept s)).gas.tareQueue us (judgeCreep c (withWindow c kept s)) := by
  have idle := h.idle
  have read := getElem_withWindow c kept s
  have stays : judgeCreep c (withWindow c kept s) = withWindow c kept s := by
    unfold judgeCreep
    rw [read]
    exact if_neg fun judged => absurd judged.2 (Int.not_lt.mpr light)
  rw [stays]
  refine ⟨⟨h.bounded, fun d => ?_⟩, ?_, rfl⟩
  · by_cases same : d = c
    · subst same
      rw [read]
      exact fun idle => ⟨h.waits idle, h.holds⟩
    · exact (withWindow_quietBeside c kept s).othersQuiet h.others d same
  · rw [getElem_clockedState, read, ← h.last, clockedTo_of_idle idle]
    exact clockedTo_of_idle idle

/-- A window above 20 mg, and the calm after its channel has left service. -/
theorem judged_heavy (heavy : 20 < creepSum kept) :
    Settled c (enterFault c .creep (withWindow c kept s)).gas.channels[c]
      (judgeCreep c (withWindow c kept s)).gas.tareQueue us (judgeCreep c (withWindow c kept s)) := by
  have idle := h.idle
  have faulted : judgeCreep c (withWindow c kept s) = enterFault c .creep (withWindow c kept s) := by
    unfold judgeCreep
    rw [getElem_withWindow]
    exact if_pos ⟨idle, heavy⟩
  have busy := enterFault_busy c .creep (withWindow c kept s)
  have beside := (withWindow_quietBeside c kept s).trans (enterFault_quietBeside c .creep _)
  rw [faulted]
  refine ⟨calm_of_busy (beside.interval.trans_le h.bounded) ?_ (beside.othersQuiet h.others), ?_, rfl⟩
  · rcases busy with state | state <;> rw [state] <;> decide
  · rw [getElem_clockedState, clockedTo_of_held]
    rcases busy with state | state <;> rw [state] <;> rfl

/-- The moment's judgement, and the calm after it. -/
theorem judged : ∃ v r, Judged kept last q v ∧ Settled c v r us (judgeCreep c (withWindow c kept s)) := by
  by_cases heavy : 20 < creepSum kept
  · refine ⟨_, _, ⟨fun light => absurd heavy (Int.not_lt.mpr light), fun _ once => ?_⟩, h.judged_heavy heavy⟩
    rw [getElem_enterFault_self (h.queue ▸ once)]
    exact ⟨rfl, rfl⟩
  · exact ⟨last, _, ⟨fun _ => rfl, fun above => absurd above heavy⟩, h.judged_light (Int.not_lt.mp heavy)⟩

end CreepAhead

/-- The moment in which the window of channel `c` ages, and the calm after it. -/
theorem CreepAhead.moment_ages (h : CreepAhead c leaves old kept last q us s) (some_old : old ≠ [])
    (same : ∀ i ∈ old, i.1 = leaves) (le : w ≤ us) (now : leaves + 1000000 < s.timebase + w) :
    ∃ v r, Judged kept last q v ∧ Settled c v r (us - w) (moment (passClock w s)) := by
  have ahead := h.after le
  obtain ⟨v, r, judged, calm, there, -⟩ := ahead.judged
  have turned := ahead.ages some_old same now
  have after := calm.quiet
  rw [moment_eq, fallDues_passClock fun e => (h.waitsAll e).mono le,
    forChannels_ageCreep_of_others ahead.others (turned ▸ fun e _ => after e), turned]
  refine ⟨v, _, judged, calm.ended, ?_, rfl⟩
  rw [clockedState_finish, finish_gas, there]

/-- R64: increments that come to lie more than 1000 ms back leave the window of an IDLE channel, which is judged then. -/
theorem elapse_creepAhead (some_time : us ≠ 0) (some_old : old ≠ []) (same : ∀ i ∈ old, i.1 = leaves)
    (start : CreepAhead c leaves old kept last q us s) : Judged kept last q (elapse us s).gas.channels[c] := by
  refine elapse_settles (A := CreepAhead c leaves old kept last q) (R := fun v _ => Judged kept last q v) some_time
    (fun _ _ phase => phase.bounded) (fun _ _ phase => ?_) (fun a t d phase next within => ?_) start
  · exact phase.acts some_old same
  · by_cases sooner : t.timebase + d ≤ leaves + 1000000
    · rw [moment_passClock_of_calm (phase.calm some_old same within sooner) (Nat.le_refl d)]
      exact .inl (phase.after within).ended
    · exact .inr (phase.moment_ages some_old same within (Nat.lt_of_not_le sooner))

/-! ### The end of a lapse of time (R178) -/

theorem finish_passClock (ended : finish s = s) (us : Nat) : finish (passClock us s) = passClock us s := by
  have clocked := finish_gas_timebase { s.gas with channels := s.gas.channels.map (clockedChannel us) } (s.timebase + us) s
  rw [ended] at clocked
  exact clocked

theorem finish_passTime (ended : finish s = s) (n us : Nat) : finish (passTime n us s) = passTime n us s := by
  induction n generalizing us s with
  | zero => exact finish_passClock ended us
  | succ n ih =>
    rw [passTime]
    split
    · split
      · exact ih (finish_finish _) _
      · exact finish_passClock ended us
    · exact finish_passClock ended us

theorem finish_elapse (ended : finish s = s) (us : Nat) : finish (elapse us s) = elapse us s := by
  unfold elapse
  split
  · exact ended
  · exact finish_passTime ended _ us

/-! ### The step with no command waiting -/

theorem step_of_idle (idle : s.pending = []) : step s = .next (finish (elapse 1000 s)) := by
  unfold step
  rw [idle]
  rfl

/-- Settles O2: time passes from moment to moment. Before the one IDLE channel acts, and after it, no IDLE channel does, and
the stretches of such calm add up. -/
theorem idleStepPassesAMillisecondAndTimeActsOnChannels :
    Obligations.IdleStepPassesAMillisecondAndTimeActsOnChannels := by
  unfold Obligations.IdleStepPassesAMillisecondAndTimeActsOnChannels
  refine ⟨fun s => step_of_idle, fun us s => (elapse_elapses us s).timebase, fun us s ended => finish_elapse ended us,
    fun us s some_time bounded ended quiet => elapse_of_calm some_time ⟨bounded, quiet⟩ ended,
    fun us c s some_time bounded others => ?_⟩
  intro ch t idle
  refine ⟨fun early reaches holds => ?_, fun leaves old kept waits window some_old same reaches holds => ?_⟩
  · obtain ⟨⟨state, due, time⟩, queue⟩ := elapse_tareAhead some_time
      ⟨bounded, others, idle, early, holds, reaches, rfl, rfl⟩
    exact ⟨state, due, time, queue⟩
  · refine elapse_creepAhead some_time some_old same
      ⟨bounded, others, idle, fun _ => waits, window, reaches, holds, ?_, rfl⟩
    rw [clockedTo_of_idle idle]

end Sys2Proof.Machine
end
